-- ==== Sys2Proof/Syntax.lean ====
section
/-! DEFINITION. The syntax: the mnemonics and addressing modes of the instruction set, operands in memory,
and `Instr`, one constructor per row of spec/opcode_table.json (30_encoding.md R71, R73 to R76). -/

namespace Sys2Proof

/-- The 57 mnemonics (30_encoding.md R75). -/
inductive Mnemonic where
  | lda | ldx | ldy | sta | stx | sty
  | tax | tay | tsx | txa | txs | tya | pha | php | pla | plp
  | and | ora | eor | bit | adc | sbc | isc
  | cmp | cpx | cpy
  | asl | lsr | rol | ror
  | inc | dec | inx | iny | dex | dey
  | bcc | bcs | beq | bmi | bne | bpl | bvc | bvs
  | jmp | jsr | rts | rti
  | clc | cld | cli | clv | sec | sed | sei | brk | nop
  deriving DecidableEq, Repr

/-- The formats, one per addressing mode (30_encoding.md R71). -/
inductive Mode where
  | imp | acc | imm | zp | zpx | zpy | abs | absx | absy | indx | indy | ind | rel
  deriving DecidableEq, Repr

/-- An operand in memory: a mode that has an effective address, with its operand field
(40_execution_core.md R106 to R113). -/
inductive MemOperand where
  | zp (zz : Byte)
  | zpx (zz : Byte)
  | zpy (zz : Byte)
  | abs (hhll : Word)
  | absx (hhll : Word)
  | absy (hhll : Word)
  | indx (zz : Byte)
  | indy (zz : Byte)
  deriving DecidableEq, Repr

/-- An instruction, one constructor per opcode. The operand is the field of its format (R71, R72): `ii` an
immediate byte, `zz` a zero-page byte, `hhll` the 16-bit `{hh, ll}`, `oo` a signed branch offset. -/
inductive Instr where
  | ldaImm (ii : Byte)
  | ldaZp (zz : Byte)
  | ldaZpx (zz : Byte)
  | ldaAbs (hhll : Word)
  | ldaAbsx (hhll : Word)
  | ldaAbsy (hhll : Word)
  | ldaIndx (zz : Byte)
  | ldaIndy (zz : Byte)
  | ldxImm (ii : Byte)
  | ldxZp (zz : Byte)
  | ldxZpy (zz : Byte)
  | ldxAbs (hhll : Word)
  | ldxAbsy (hhll : Word)
  | ldyImm (ii : Byte)
  | ldyZp (zz : Byte)
  | ldyZpx (zz : Byte)
  | ldyAbs (hhll : Word)
  | ldyAbsx (hhll : Word)
  | staZp (zz : Byte)
  | staZpx (zz : Byte)
  | staAbs (hhll : Word)
  | staAbsx (hhll : Word)
  | staAbsy (hhll : Word)
  | staIndx (zz : Byte)
  | staIndy (zz : Byte)
  | stxZp (zz : Byte)
  | stxZpy (zz : Byte)
  | stxAbs (hhll : Word)
  | styZp (zz : Byte)
  | styZpx (zz : Byte)
  | styAbs (hhll : Word)
  | tax
  | tay
  | tsx
  | txa
  | txs
  | tya
  | pha
  | php
  | pla
  | plp
  | andImm (ii : Byte)
  | andZp (zz : Byte)
  | andZpx (zz : Byte)
  | andAbs (hhll : Word)
  | andAbsx (hhll : Word)
  | andAbsy (hhll : Word)
  | andIndx (zz : Byte)
  | andIndy (zz : Byte)
  | oraImm (ii : Byte)
  | oraZp (zz : Byte)
  | oraZpx (zz : Byte)
  | oraAbs (hhll : Word)
  | oraAbsx (hhll : Word)
  | oraAbsy (hhll : Word)
  | oraIndx (zz : Byte)
  | oraIndy (zz : Byte)
  | eorImm (ii : Byte)
  | eorZp (zz : Byte)
  | eorZpx (zz : Byte)
  | eorAbs (hhll : Word)
  | eorAbsx (hhll : Word)
  | eorAbsy (hhll : Word)
  | eorIndx (zz : Byte)
  | eorIndy (zz : Byte)
  | bitZp (zz : Byte)
  | bitAbs (hhll : Word)
  | adcImm (ii : Byte)
  | adcZp (zz : Byte)
  | adcZpx (zz : Byte)
  | adcAbs (hhll : Word)
  | adcAbsx (hhll : Word)
  | adcAbsy (hhll : Word)
  | adcIndx (zz : Byte)
  | adcIndy (zz : Byte)
  | sbcImm (ii : Byte)
  | sbcZp (zz : Byte)
  | sbcZpx (zz : Byte)
  | sbcAbs (hhll : Word)
  | sbcAbsx (hhll : Word)
  | sbcAbsy (hhll : Word)
  | sbcIndx (zz : Byte)
  | sbcIndy (zz : Byte)
  | iscZp (zz : Byte)
  | iscZpx (zz : Byte)
  | iscAbs (hhll : Word)
  | iscAbsx (hhll : Word)
  | iscAbsy (hhll : Word)
  | iscIndx (zz : Byte)
  | iscIndy (zz : Byte)
  | cmpImm (ii : Byte)
  | cmpZp (zz : Byte)
  | cmpZpx (zz : Byte)
  | cmpAbs (hhll : Word)
  | cmpAbsx (hhll : Word)
  | cmpAbsy (hhll : Word)
  | cmpIndx (zz : Byte)
  | cmpIndy (zz : Byte)
  | cpxImm (ii : Byte)
  | cpxZp (zz : Byte)
  | cpxAbs (hhll : Word)
  | cpyImm (ii : Byte)
  | cpyZp (zz : Byte)
  | cpyAbs (hhll : Word)
  | aslAcc
  | aslZp (zz : Byte)
  | aslZpx (zz : Byte)
  | aslAbs (hhll : Word)
  | aslAbsx (hhll : Word)
  | lsrAcc
  | lsrZp (zz : Byte)
  | lsrZpx (zz : Byte)
  | lsrAbs (hhll : Word)
  | lsrAbsx (hhll : Word)
  | rolAcc
  | rolZp (zz : Byte)
  | rolZpx (zz : Byte)
  | rolAbs (hhll : Word)
  | rolAbsx (hhll : Word)
  | rorAcc
  | rorZp (zz : Byte)
  | rorZpx (zz : Byte)
  | rorAbs (hhll : Word)
  | rorAbsx (hhll : Word)
  | incZp (zz : Byte)
  | incZpx (zz : Byte)
  | incAbs (hhll : Word)
  | incAbsx (hhll : Word)
  | decZp (zz : Byte)
  | decZpx (zz : Byte)
  | decAbs (hhll : Word)
  | decAbsx (hhll : Word)
  | inx
  | iny
  | dex
  | dey
  | bcc (oo : Byte)
  | bcs (oo : Byte)
  | beq (oo : Byte)
  | bmi (oo : Byte)
  | bne (oo : Byte)
  | bpl (oo : Byte)
  | bvc (oo : Byte)
  | bvs (oo : Byte)
  | jmpAbs (hhll : Word)
  | jmpInd (hhll : Word)
  | jsr (hhll : Word)
  | rts
  | rti
  | clc
  | cld
  | cli
  | clv
  | sec
  | sed
  | sei
  | brk
  | nop
  deriving DecidableEq, Repr

end Sys2Proof
end

