-- ==== Sys2Proof/WellFormed.lean ====
section
/-! DEFINITION. What the spec asks of an instruction before it is encoded.

An `Instr` has one constructor per opcode row and its operand has the type of its field (30_encoding.md
R71, R72), so a mode a mnemonic lacks (STA immediate) or an operand that does not fit cannot be
written. What is left is the assembler's refusal of a branch target out of reach (R80), and the
contract of the program loader (70_reset_and_hazards.md R411). -/

namespace Sys2Proof

/-- Every instruction term is well formed (R71, R72): its type admits exactly the encodable operands. -/
def Instr.wf (_ : Instr) : Bool := true

/-- The reach of a branch at `site` (R80, R115): `target` is -128 to +127 from `site + 2`, distances
taken modulo 65536 (log entry 13). -/
def branchReaches (site target : Word) : Bool :=
  let distance := (target - (site + 2#16)).toInt
  decide (-128 ≤ distance) && decide (distance ≤ 127)

/-- A program image of `n` bytes fits at `base`: `base + n <= 65536` (70_reset_and_hazards.md R411). -/
def imageFits (base : Word) (n : Nat) : Bool := decide (base.toNat + n ≤ 65536)

end Sys2Proof
end

