-- ==== Sys2Proof/Decode.lean ====
section
/-! DEFINITION. Decoding (30_encoding.md R70 to R79), the row of each instruction (R75, R77), and after
them the encoder, written from the same rules. -/

namespace Sys2Proof

/-! ## Bytes of a 16-bit value (20_memory.md R52) -/

/-- `{hi, lo}` (00_scope.md R10). -/
def wordOf (hi lo : Byte) : Word := hi ++ lo

/-- Bits 15 to 8. -/
def hiByte (w : Word) : Byte := w.extractLsb' 8 8

/-- Bits 7 to 0. -/
def loByte (w : Word) : Byte := w.extractLsb' 0 8

/-! ## Modes (30_encoding.md R71) -/

/-- The number of operand bytes of a mode (R71). -/
def operandBytes : Mode → Nat
  | .imp | .acc => 0
  | .imm | .zp | .zpx | .zpy | .indx | .indy | .rel => 1
  | .abs | .absx | .absy | .ind => 2

/-- `len`: the opcode byte and the operand bytes (40_execution_core.md R103). -/
def modeLength (m : Mode) : Nat := 1 + operandBytes m

/-! ## The rows of the dispatch table (40_execution_core.md R102, 30_encoding.md R75) -/

/-- What the dispatch table gives for an opcode, beside its handler (R102): `len` follows from the mode. -/
structure Row where
  mnemonic : Mnemonic
  mode : Mode
  cycles : Nat
  deriving DecidableEq, Repr

/-- The row of an instruction: mnemonic, mode and base cycles (R75, R77). -/
def rowOf : Instr → Row
  | .ldaImm _ => ⟨.lda, .imm, 2⟩
  | .ldaZp _ => ⟨.lda, .zp, 3⟩
  | .ldaZpx _ => ⟨.lda, .zpx, 4⟩
  | .ldaAbs _ => ⟨.lda, .abs, 4⟩
  | .ldaAbsx _ => ⟨.lda, .absx, 4⟩
  | .ldaAbsy _ => ⟨.lda, .absy, 4⟩
  | .ldaIndx _ => ⟨.lda, .indx, 6⟩
  | .ldaIndy _ => ⟨.lda, .indy, 5⟩
  | .ldxImm _ => ⟨.ldx, .imm, 2⟩
  | .ldxZp _ => ⟨.ldx, .zp, 3⟩
  | .ldxZpy _ => ⟨.ldx, .zpy, 4⟩
  | .ldxAbs _ => ⟨.ldx, .abs, 4⟩
  | .ldxAbsy _ => ⟨.ldx, .absy, 4⟩
  | .ldyImm _ => ⟨.ldy, .imm, 2⟩
  | .ldyZp _ => ⟨.ldy, .zp, 3⟩
  | .ldyZpx _ => ⟨.ldy, .zpx, 4⟩
  | .ldyAbs _ => ⟨.ldy, .abs, 4⟩
  | .ldyAbsx _ => ⟨.ldy, .absx, 4⟩
  | .staZp _ => ⟨.sta, .zp, 3⟩
  | .staZpx _ => ⟨.sta, .zpx, 4⟩
  | .staAbs _ => ⟨.sta, .abs, 4⟩
  | .staAbsx _ => ⟨.sta, .absx, 5⟩
  | .staAbsy _ => ⟨.sta, .absy, 5⟩
  | .staIndx _ => ⟨.sta, .indx, 6⟩
  | .staIndy _ => ⟨.sta, .indy, 6⟩
  | .stxZp _ => ⟨.stx, .zp, 3⟩
  | .stxZpy _ => ⟨.stx, .zpy, 4⟩
  | .stxAbs _ => ⟨.stx, .abs, 4⟩
  | .styZp _ => ⟨.sty, .zp, 3⟩
  | .styZpx _ => ⟨.sty, .zpx, 4⟩
  | .styAbs _ => ⟨.sty, .abs, 4⟩
  | .tax => ⟨.tax, .imp, 2⟩
  | .tay => ⟨.tay, .imp, 2⟩
  | .tsx => ⟨.tsx, .imp, 2⟩
  | .txa => ⟨.txa, .imp, 2⟩
  | .txs => ⟨.txs, .imp, 2⟩
  | .tya => ⟨.tya, .imp, 2⟩
  | .pha => ⟨.pha, .imp, 3⟩
  | .php => ⟨.php, .imp, 3⟩
  | .pla => ⟨.pla, .imp, 4⟩
  | .plp => ⟨.plp, .imp, 4⟩
  | .andImm _ => ⟨.and, .imm, 2⟩
  | .andZp _ => ⟨.and, .zp, 3⟩
  | .andZpx _ => ⟨.and, .zpx, 4⟩
  | .andAbs _ => ⟨.and, .abs, 4⟩
  | .andAbsx _ => ⟨.and, .absx, 4⟩
  | .andAbsy _ => ⟨.and, .absy, 4⟩
  | .andIndx _ => ⟨.and, .indx, 6⟩
  | .andIndy _ => ⟨.and, .indy, 5⟩
  | .oraImm _ => ⟨.ora, .imm, 2⟩
  | .oraZp _ => ⟨.ora, .zp, 3⟩
  | .oraZpx _ => ⟨.ora, .zpx, 4⟩
  | .oraAbs _ => ⟨.ora, .abs, 4⟩
  | .oraAbsx _ => ⟨.ora, .absx, 4⟩
  | .oraAbsy _ => ⟨.ora, .absy, 4⟩
  | .oraIndx _ => ⟨.ora, .indx, 6⟩
  | .oraIndy _ => ⟨.ora, .indy, 5⟩
  | .eorImm _ => ⟨.eor, .imm, 2⟩
  | .eorZp _ => ⟨.eor, .zp, 3⟩
  | .eorZpx _ => ⟨.eor, .zpx, 4⟩
  | .eorAbs _ => ⟨.eor, .abs, 4⟩
  | .eorAbsx _ => ⟨.eor, .absx, 4⟩
  | .eorAbsy _ => ⟨.eor, .absy, 4⟩
  | .eorIndx _ => ⟨.eor, .indx, 6⟩
  | .eorIndy _ => ⟨.eor, .indy, 5⟩
  | .bitZp _ => ⟨.bit, .zp, 3⟩
  | .bitAbs _ => ⟨.bit, .abs, 4⟩
  | .adcImm _ => ⟨.adc, .imm, 2⟩
  | .adcZp _ => ⟨.adc, .zp, 3⟩
  | .adcZpx _ => ⟨.adc, .zpx, 4⟩
  | .adcAbs _ => ⟨.adc, .abs, 4⟩
  | .adcAbsx _ => ⟨.adc, .absx, 4⟩
  | .adcAbsy _ => ⟨.adc, .absy, 4⟩
  | .adcIndx _ => ⟨.adc, .indx, 6⟩
  | .adcIndy _ => ⟨.adc, .indy, 5⟩
  | .sbcImm _ => ⟨.sbc, .imm, 2⟩
  | .sbcZp _ => ⟨.sbc, .zp, 3⟩
  | .sbcZpx _ => ⟨.sbc, .zpx, 4⟩
  | .sbcAbs _ => ⟨.sbc, .abs, 4⟩
  | .sbcAbsx _ => ⟨.sbc, .absx, 4⟩
  | .sbcAbsy _ => ⟨.sbc, .absy, 4⟩
  | .sbcIndx _ => ⟨.sbc, .indx, 6⟩
  | .sbcIndy _ => ⟨.sbc, .indy, 5⟩
  | .iscZp _ => ⟨.isc, .zp, 5⟩
  | .iscZpx _ => ⟨.isc, .zpx, 6⟩
  | .iscAbs _ => ⟨.isc, .abs, 6⟩
  | .iscAbsx _ => ⟨.isc, .absx, 7⟩
  | .iscAbsy _ => ⟨.isc, .absy, 7⟩
  | .iscIndx _ => ⟨.isc, .indx, 8⟩
  | .iscIndy _ => ⟨.isc, .indy, 8⟩
  | .cmpImm _ => ⟨.cmp, .imm, 2⟩
  | .cmpZp _ => ⟨.cmp, .zp, 3⟩
  | .cmpZpx _ => ⟨.cmp, .zpx, 4⟩
  | .cmpAbs _ => ⟨.cmp, .abs, 4⟩
  | .cmpAbsx _ => ⟨.cmp, .absx, 4⟩
  | .cmpAbsy _ => ⟨.cmp, .absy, 4⟩
  | .cmpIndx _ => ⟨.cmp, .indx, 6⟩
  | .cmpIndy _ => ⟨.cmp, .indy, 5⟩
  | .cpxImm _ => ⟨.cpx, .imm, 2⟩
  | .cpxZp _ => ⟨.cpx, .zp, 3⟩
  | .cpxAbs _ => ⟨.cpx, .abs, 4⟩
  | .cpyImm _ => ⟨.cpy, .imm, 2⟩
  | .cpyZp _ => ⟨.cpy, .zp, 3⟩
  | .cpyAbs _ => ⟨.cpy, .abs, 4⟩
  | .aslAcc => ⟨.asl, .acc, 2⟩
  | .aslZp _ => ⟨.asl, .zp, 5⟩
  | .aslZpx _ => ⟨.asl, .zpx, 6⟩
  | .aslAbs _ => ⟨.asl, .abs, 6⟩
  | .aslAbsx _ => ⟨.asl, .absx, 7⟩
  | .lsrAcc => ⟨.lsr, .acc, 2⟩
  | .lsrZp _ => ⟨.lsr, .zp, 5⟩
  | .lsrZpx _ => ⟨.lsr, .zpx, 6⟩
  | .lsrAbs _ => ⟨.lsr, .abs, 6⟩
  | .lsrAbsx _ => ⟨.lsr, .absx, 7⟩
  | .rolAcc => ⟨.rol, .acc, 2⟩
  | .rolZp _ => ⟨.rol, .zp, 5⟩
  | .rolZpx _ => ⟨.rol, .zpx, 6⟩
  | .rolAbs _ => ⟨.rol, .abs, 6⟩
  | .rolAbsx _ => ⟨.rol, .absx, 7⟩
  | .rorAcc => ⟨.ror, .acc, 2⟩
  | .rorZp _ => ⟨.ror, .zp, 5⟩
  | .rorZpx _ => ⟨.ror, .zpx, 6⟩
  | .rorAbs _ => ⟨.ror, .abs, 6⟩
  | .rorAbsx _ => ⟨.ror, .absx, 7⟩
  | .incZp _ => ⟨.inc, .zp, 5⟩
  | .incZpx _ => ⟨.inc, .zpx, 6⟩
  | .incAbs _ => ⟨.inc, .abs, 6⟩
  | .incAbsx _ => ⟨.inc, .absx, 7⟩
  | .decZp _ => ⟨.dec, .zp, 5⟩
  | .decZpx _ => ⟨.dec, .zpx, 6⟩
  | .decAbs _ => ⟨.dec, .abs, 6⟩
  | .decAbsx _ => ⟨.dec, .absx, 7⟩
  | .inx => ⟨.inx, .imp, 2⟩
  | .iny => ⟨.iny, .imp, 2⟩
  | .dex => ⟨.dex, .imp, 2⟩
  | .dey => ⟨.dey, .imp, 2⟩
  | .bcc _ => ⟨.bcc, .rel, 2⟩
  | .bcs _ => ⟨.bcs, .rel, 2⟩
  | .beq _ => ⟨.beq, .rel, 2⟩
  | .bmi _ => ⟨.bmi, .rel, 2⟩
  | .bne _ => ⟨.bne, .rel, 2⟩
  | .bpl _ => ⟨.bpl, .rel, 2⟩
  | .bvc _ => ⟨.bvc, .rel, 2⟩
  | .bvs _ => ⟨.bvs, .rel, 2⟩
  | .jmpAbs _ => ⟨.jmp, .abs, 3⟩
  | .jmpInd _ => ⟨.jmp, .ind, 5⟩
  | .jsr _ => ⟨.jsr, .abs, 6⟩
  | .rts => ⟨.rts, .imp, 6⟩
  | .rti => ⟨.rti, .imp, 6⟩
  | .clc => ⟨.clc, .imp, 2⟩
  | .cld => ⟨.cld, .imp, 2⟩
  | .cli => ⟨.cli, .imp, 2⟩
  | .clv => ⟨.clv, .imp, 2⟩
  | .sec => ⟨.sec, .imp, 2⟩
  | .sed => ⟨.sed, .imp, 2⟩
  | .sei => ⟨.sei, .imp, 2⟩
  | .brk => ⟨.brk, .imp, 7⟩
  | .nop => ⟨.nop, .imp, 2⟩

/-- The length of an instruction in bytes (R71, R103). -/
def instrLength (i : Instr) : Nat := modeLength (rowOf i).mode

/-- The base cost of an instruction (R77). -/
def baseCycles (i : Instr) : Nat := (rowOf i).cycles

/-! ## The opcode map (30_encoding.md R74) -/

/-- A cell of the opcode map: the instruction an opcode byte selects, waiting for its operand bytes, or
no handler. -/
inductive Entry where
  | none
  | plain (i : Instr)
  | byte (f : Byte → Instr)
  | word (f : Word → Instr)

/-- Opcodes 00 to 0F (R74). -/
def mapRow0 : List Entry :=
  [.plain .brk, .byte .oraIndx, .none, .none,
   .none, .byte .oraZp, .byte .aslZp, .none,
   .plain .php, .byte .oraImm, .plain .aslAcc, .none,
   .none, .word .oraAbs, .word .aslAbs, .none]

/-- Opcodes 10 to 1F (R74). -/
def mapRow1 : List Entry :=
  [.byte .bpl, .byte .oraIndy, .none, .none,
   .none, .byte .oraZpx, .byte .aslZpx, .none,
   .plain .clc, .word .oraAbsy, .none, .none,
   .none, .word .oraAbsx, .word .aslAbsx, .none]

/-- Opcodes 20 to 2F (R74). -/
def mapRow2 : List Entry :=
  [.word .jsr, .byte .andIndx, .none, .none,
   .byte .bitZp, .byte .andZp, .byte .rolZp, .none,
   .plain .plp, .byte .andImm, .plain .rolAcc, .none,
   .word .bitAbs, .word .andAbs, .word .rolAbs, .none]

/-- Opcodes 30 to 3F (R74). -/
def mapRow3 : List Entry :=
  [.byte .bmi, .byte .andIndy, .none, .none,
   .none, .byte .andZpx, .byte .rolZpx, .none,
   .plain .sec, .word .andAbsy, .none, .none,
   .none, .word .andAbsx, .word .rolAbsx, .none]

/-- Opcodes 40 to 4F (R74). -/
def mapRow4 : List Entry :=
  [.plain .rti, .byte .eorIndx, .none, .none,
   .none, .byte .eorZp, .byte .lsrZp, .none,
   .plain .pha, .byte .eorImm, .plain .lsrAcc, .none,
   .word .jmpAbs, .word .eorAbs, .word .lsrAbs, .none]

/-- Opcodes 50 to 5F (R74). -/
def mapRow5 : List Entry :=
  [.byte .bvc, .byte .eorIndy, .none, .none,
   .none, .byte .eorZpx, .byte .lsrZpx, .none,
   .plain .cli, .word .eorAbsy, .none, .none,
   .none, .word .eorAbsx, .word .lsrAbsx, .none]

/-- Opcodes 60 to 6F (R74). -/
def mapRow6 : List Entry :=
  [.plain .rts, .byte .adcIndx, .none, .none,
   .none, .byte .adcZp, .byte .rorZp, .none,
   .plain .pla, .byte .adcImm, .plain .rorAcc, .none,
   .word .jmpInd, .word .adcAbs, .word .rorAbs, .none]

/-- Opcodes 70 to 7F (R74). -/
def mapRow7 : List Entry :=
  [.byte .bvs, .byte .adcIndy, .none, .none,
   .none, .byte .adcZpx, .byte .rorZpx, .none,
   .plain .sei, .word .adcAbsy, .none, .none,
   .none, .word .adcAbsx, .word .rorAbsx, .none]

/-- Opcodes 80 to 8F (R74). -/
def mapRow8 : List Entry :=
  [.none, .byte .staIndx, .none, .none,
   .byte .styZp, .byte .staZp, .byte .stxZp, .none,
   .plain .dey, .none, .plain .txa, .none,
   .word .styAbs, .word .staAbs, .word .stxAbs, .none]

/-- Opcodes 90 to 9F (R74). -/
def mapRow9 : List Entry :=
  [.byte .bcc, .byte .staIndy, .none, .none,
   .byte .styZpx, .byte .staZpx, .byte .stxZpy, .none,
   .plain .tya, .word .staAbsy, .plain .txs, .none,
   .none, .word .staAbsx, .none, .none]

/-- Opcodes A0 to AF (R74). -/
def mapRowA : List Entry :=
  [.byte .ldyImm, .byte .ldaIndx, .byte .ldxImm, .none,
   .byte .ldyZp, .byte .ldaZp, .byte .ldxZp, .none,
   .plain .tay, .byte .ldaImm, .plain .tax, .none,
   .word .ldyAbs, .word .ldaAbs, .word .ldxAbs, .none]

/-- Opcodes B0 to BF (R74). -/
def mapRowB : List Entry :=
  [.byte .bcs, .byte .ldaIndy, .none, .none,
   .byte .ldyZpx, .byte .ldaZpx, .byte .ldxZpy, .none,
   .plain .clv, .word .ldaAbsy, .plain .tsx, .none,
   .word .ldyAbsx, .word .ldaAbsx, .word .ldxAbsy, .none]

/-- Opcodes C0 to CF (R74). -/
def mapRowC : List Entry :=
  [.byte .cpyImm, .byte .cmpIndx, .none, .none,
   .byte .cpyZp, .byte .cmpZp, .byte .decZp, .none,
   .plain .iny, .byte .cmpImm, .plain .dex, .none,
   .word .cpyAbs, .word .cmpAbs, .word .decAbs, .none]

/-- Opcodes D0 to DF (R74). -/
def mapRowD : List Entry :=
  [.byte .bne, .byte .cmpIndy, .none, .none,
   .none, .byte .cmpZpx, .byte .decZpx, .none,
   .plain .cld, .word .cmpAbsy, .none, .none,
   .none, .word .cmpAbsx, .word .decAbsx, .none]

/-- Opcodes E0 to EF (R74). -/
def mapRowE : List Entry :=
  [.byte .cpxImm, .byte .sbcIndx, .none, .byte .iscIndx,
   .byte .cpxZp, .byte .sbcZp, .byte .incZp, .byte .iscZp,
   .plain .inx, .byte .sbcImm, .plain .nop, .none,
   .word .cpxAbs, .word .sbcAbs, .word .incAbs, .word .iscAbs]

/-- Opcodes F0 to FF (R74). -/
def mapRowF : List Entry :=
  [.byte .beq, .byte .sbcIndy, .none, .byte .iscIndy,
   .none, .byte .sbcZpx, .byte .incZpx, .byte .iscZpx,
   .plain .sed, .word .sbcAbsy, .none, .word .iscAbsy,
   .none, .word .sbcAbsx, .word .incAbsx, .word .iscAbsx]

/-- The opcode map, a list for each high nibble (R74). -/
def opcodeMap : List (List Entry) :=
  [mapRow0, mapRow1, mapRow2, mapRow3, mapRow4, mapRow5, mapRow6, mapRow7,
   mapRow8, mapRow9, mapRowA, mapRowB, mapRowC, mapRowD, mapRowE, mapRowF]

/-- The cell of an opcode byte: high nibble, then low nibble (R74). -/
def entryOf (op : Byte) : Entry := (opcodeMap.getD (op.toNat / 16) []).getD (op.toNat % 16) .none

/-! ## The decoder -/

/-- Why bytes are not an instruction. -/
inductive DecodeError where
  /-- No byte. -/
  | noByte
  /-- The opcode byte has no handler (R79). -/
  | unknownOpcode (op : Byte)
  /-- The opcode has a handler and an operand byte is missing. -/
  | missingOperand (op : Byte)
  deriving DecidableEq, Repr

/-- The instruction that stands first in `bytes`, and the bytes after it (R70). -/
def decode (bytes : List Byte) : Except DecodeError (Instr × List Byte) :=
  match bytes with
  | [] => .error .noByte
  | op :: rest =>
    match entryOf op with
    | .none => .error (.unknownOpcode op)
    | .plain i => .ok (i, rest)
    | .byte f =>
      match rest with
      | b1 :: rest => .ok (f b1, rest)
      | [] => .error (.missingOperand op)
    | .word f =>
      match rest with
      | b1 :: b2 :: rest => .ok (f (wordOf b2 b1), rest)
      | _ => .error (.missingOperand op)

/-- The first three bytes of an instruction whose bits are `w`, bit 0 the least significant bit of the
first byte, bits from `nbits` on zero. -/
def tableBytes (nbits w : Nat) : List Byte :=
  let v := w % 2 ^ nbits
  [BitVec.ofNat 8 v, BitVec.ofNat 8 (v / 256), BitVec.ofNat 8 (v / 65536)]

/-- The instruction the decoder reads from an instruction whose bits are `w`, numbered as
spec/opcode_table.json numbers them. -/
def decodeTableWord (nbits w : Nat) : Option Instr :=
  match decode (tableBytes nbits w) with
  | .ok (i, _) => some i
  | .error _ => none

/-! ## The encoder -/

/-- The bytes of an instruction (R71, R74): opcode, then operand bytes, the low byte of a 16-bit operand
first. -/
def encode : Instr → List Byte
  | .ldaImm ii => [0xA9#8, ii]
  | .ldaZp zz => [0xA5#8, zz]
  | .ldaZpx zz => [0xB5#8, zz]
  | .ldaAbs hhll => [0xAD#8, loByte hhll, hiByte hhll]
  | .ldaAbsx hhll => [0xBD#8, loByte hhll, hiByte hhll]
  | .ldaAbsy hhll => [0xB9#8, loByte hhll, hiByte hhll]
  | .ldaIndx zz => [0xA1#8, zz]
  | .ldaIndy zz => [0xB1#8, zz]
  | .ldxImm ii => [0xA2#8, ii]
  | .ldxZp zz => [0xA6#8, zz]
  | .ldxZpy zz => [0xB6#8, zz]
  | .ldxAbs hhll => [0xAE#8, loByte hhll, hiByte hhll]
  | .ldxAbsy hhll => [0xBE#8, loByte hhll, hiByte hhll]
  | .ldyImm ii => [0xA0#8, ii]
  | .ldyZp zz => [0xA4#8, zz]
  | .ldyZpx zz => [0xB4#8, zz]
  | .ldyAbs hhll => [0xAC#8, loByte hhll, hiByte hhll]
  | .ldyAbsx hhll => [0xBC#8, loByte hhll, hiByte hhll]
  | .staZp zz => [0x85#8, zz]
  | .staZpx zz => [0x95#8, zz]
  | .staAbs hhll => [0x8D#8, loByte hhll, hiByte hhll]
  | .staAbsx hhll => [0x9D#8, loByte hhll, hiByte hhll]
  | .staAbsy hhll => [0x99#8, loByte hhll, hiByte hhll]
  | .staIndx zz => [0x81#8, zz]
  | .staIndy zz => [0x91#8, zz]
  | .stxZp zz => [0x86#8, zz]
  | .stxZpy zz => [0x96#8, zz]
  | .stxAbs hhll => [0x8E#8, loByte hhll, hiByte hhll]
  | .styZp zz => [0x84#8, zz]
  | .styZpx zz => [0x94#8, zz]
  | .styAbs hhll => [0x8C#8, loByte hhll, hiByte hhll]
  | .tax => [0xAA#8]
  | .tay => [0xA8#8]
  | .tsx => [0xBA#8]
  | .txa => [0x8A#8]
  | .txs => [0x9A#8]
  | .tya => [0x98#8]
  | .pha => [0x48#8]
  | .php => [0x08#8]
  | .pla => [0x68#8]
  | .plp => [0x28#8]
  | .andImm ii => [0x29#8, ii]
  | .andZp zz => [0x25#8, zz]
  | .andZpx zz => [0x35#8, zz]
  | .andAbs hhll => [0x2D#8, loByte hhll, hiByte hhll]
  | .andAbsx hhll => [0x3D#8, loByte hhll, hiByte hhll]
  | .andAbsy hhll => [0x39#8, loByte hhll, hiByte hhll]
  | .andIndx zz => [0x21#8, zz]
  | .andIndy zz => [0x31#8, zz]
  | .oraImm ii => [0x09#8, ii]
  | .oraZp zz => [0x05#8, zz]
  | .oraZpx zz => [0x15#8, zz]
  | .oraAbs hhll => [0x0D#8, loByte hhll, hiByte hhll]
  | .oraAbsx hhll => [0x1D#8, loByte hhll, hiByte hhll]
  | .oraAbsy hhll => [0x19#8, loByte hhll, hiByte hhll]
  | .oraIndx zz => [0x01#8, zz]
  | .oraIndy zz => [0x11#8, zz]
  | .eorImm ii => [0x49#8, ii]
  | .eorZp zz => [0x45#8, zz]
  | .eorZpx zz => [0x55#8, zz]
  | .eorAbs hhll => [0x4D#8, loByte hhll, hiByte hhll]
  | .eorAbsx hhll => [0x5D#8, loByte hhll, hiByte hhll]
  | .eorAbsy hhll => [0x59#8, loByte hhll, hiByte hhll]
  | .eorIndx zz => [0x41#8, zz]
  | .eorIndy zz => [0x51#8, zz]
  | .bitZp zz => [0x24#8, zz]
  | .bitAbs hhll => [0x2C#8, loByte hhll, hiByte hhll]
  | .adcImm ii => [0x69#8, ii]
  | .adcZp zz => [0x65#8, zz]
  | .adcZpx zz => [0x75#8, zz]
  | .adcAbs hhll => [0x6D#8, loByte hhll, hiByte hhll]
  | .adcAbsx hhll => [0x7D#8, loByte hhll, hiByte hhll]
  | .adcAbsy hhll => [0x79#8, loByte hhll, hiByte hhll]
  | .adcIndx zz => [0x61#8, zz]
  | .adcIndy zz => [0x71#8, zz]
  | .sbcImm ii => [0xE9#8, ii]
  | .sbcZp zz => [0xE5#8, zz]
  | .sbcZpx zz => [0xF5#8, zz]
  | .sbcAbs hhll => [0xED#8, loByte hhll, hiByte hhll]
  | .sbcAbsx hhll => [0xFD#8, loByte hhll, hiByte hhll]
  | .sbcAbsy hhll => [0xF9#8, loByte hhll, hiByte hhll]
  | .sbcIndx zz => [0xE1#8, zz]
  | .sbcIndy zz => [0xF1#8, zz]
  | .iscZp zz => [0xE7#8, zz]
  | .iscZpx zz => [0xF7#8, zz]
  | .iscAbs hhll => [0xEF#8, loByte hhll, hiByte hhll]
  | .iscAbsx hhll => [0xFF#8, loByte hhll, hiByte hhll]
  | .iscAbsy hhll => [0xFB#8, loByte hhll, hiByte hhll]
  | .iscIndx zz => [0xE3#8, zz]
  | .iscIndy zz => [0xF3#8, zz]
  | .cmpImm ii => [0xC9#8, ii]
  | .cmpZp zz => [0xC5#8, zz]
  | .cmpZpx zz => [0xD5#8, zz]
  | .cmpAbs hhll => [0xCD#8, loByte hhll, hiByte hhll]
  | .cmpAbsx hhll => [0xDD#8, loByte hhll, hiByte hhll]
  | .cmpAbsy hhll => [0xD9#8, loByte hhll, hiByte hhll]
  | .cmpIndx zz => [0xC1#8, zz]
  | .cmpIndy zz => [0xD1#8, zz]
  | .cpxImm ii => [0xE0#8, ii]
  | .cpxZp zz => [0xE4#8, zz]
  | .cpxAbs hhll => [0xEC#8, loByte hhll, hiByte hhll]
  | .cpyImm ii => [0xC0#8, ii]
  | .cpyZp zz => [0xC4#8, zz]
  | .cpyAbs hhll => [0xCC#8, loByte hhll, hiByte hhll]
  | .aslAcc => [0x0A#8]
  | .aslZp zz => [0x06#8, zz]
  | .aslZpx zz => [0x16#8, zz]
  | .aslAbs hhll => [0x0E#8, loByte hhll, hiByte hhll]
  | .aslAbsx hhll => [0x1E#8, loByte hhll, hiByte hhll]
  | .lsrAcc => [0x4A#8]
  | .lsrZp zz => [0x46#8, zz]
  | .lsrZpx zz => [0x56#8, zz]
  | .lsrAbs hhll => [0x4E#8, loByte hhll, hiByte hhll]
  | .lsrAbsx hhll => [0x5E#8, loByte hhll, hiByte hhll]
  | .rolAcc => [0x2A#8]
  | .rolZp zz => [0x26#8, zz]
  | .rolZpx zz => [0x36#8, zz]
  | .rolAbs hhll => [0x2E#8, loByte hhll, hiByte hhll]
  | .rolAbsx hhll => [0x3E#8, loByte hhll, hiByte hhll]
  | .rorAcc => [0x6A#8]
  | .rorZp zz => [0x66#8, zz]
  | .rorZpx zz => [0x76#8, zz]
  | .rorAbs hhll => [0x6E#8, loByte hhll, hiByte hhll]
  | .rorAbsx hhll => [0x7E#8, loByte hhll, hiByte hhll]
  | .incZp zz => [0xE6#8, zz]
  | .incZpx zz => [0xF6#8, zz]
  | .incAbs hhll => [0xEE#8, loByte hhll, hiByte hhll]
  | .incAbsx hhll => [0xFE#8, loByte hhll, hiByte hhll]
  | .decZp zz => [0xC6#8, zz]
  | .decZpx zz => [0xD6#8, zz]
  | .decAbs hhll => [0xCE#8, loByte hhll, hiByte hhll]
  | .decAbsx hhll => [0xDE#8, loByte hhll, hiByte hhll]
  | .inx => [0xE8#8]
  | .iny => [0xC8#8]
  | .dex => [0xCA#8]
  | .dey => [0x88#8]
  | .bcc oo => [0x90#8, oo]
  | .bcs oo => [0xB0#8, oo]
  | .beq oo => [0xF0#8, oo]
  | .bmi oo => [0x30#8, oo]
  | .bne oo => [0xD0#8, oo]
  | .bpl oo => [0x10#8, oo]
  | .bvc oo => [0x50#8, oo]
  | .bvs oo => [0x70#8, oo]
  | .jmpAbs hhll => [0x4C#8, loByte hhll, hiByte hhll]
  | .jmpInd hhll => [0x6C#8, loByte hhll, hiByte hhll]
  | .jsr hhll => [0x20#8, loByte hhll, hiByte hhll]
  | .rts => [0x60#8]
  | .rti => [0x40#8]
  | .clc => [0x18#8]
  | .cld => [0xD8#8]
  | .cli => [0x58#8]
  | .clv => [0xB8#8]
  | .sec => [0x38#8]
  | .sed => [0xF8#8]
  | .sei => [0x78#8]
  | .brk => [0x00#8]
  | .nop => [0xEA#8]

/-- The offset byte of a branch at `site` to `target`: `u8(target - (site + 2))`, and none where the
assembler must refuse the target (R80). -/
def branchOffset (site target : Word) : Option Byte :=
  if branchReaches site target then some (loByte (target - (site + 2#16))) else none

end Sys2Proof
end

