-- ==== Sys2Proof/Config.lean ====
section
/-! DEFINITION. The parameters of 00_scope.md R8 and R9: the profile, and the launch values. The spec
leaves no value free (93_implementation_defined.md, end of section 1), so nothing here is opaque. -/

namespace Sys2Proof

/-- The parameter `PROFILE` (00_scope.md R8): which semantics a rule with a profile split has. -/
inductive Profile where
  | source
  | nmos
  deriving DecidableEq, Repr

namespace Config

/-- `PROFILE` is SOURCE by default (00_scope.md R8, R9). -/
def resetProfile : Profile := .source

/-- `ENTRY_PC` of the run entry point (70_reset_and_hazards.md R401). -/
def entryPc : Word := 0x8000#16

/-- P at the start of a run: I and U set (70_reset_and_hazards.md R402). -/
def launchP : Byte := 0x24#8

/-- `INIT_A`. DESIGN CHOICE (log entry 2): R34 leaves it open. Unsafe. -/
def initA : Byte := 0x00#8

/-- `INIT_X`. DESIGN CHOICE (log entry 2): R34 leaves it open. Unsafe. -/
def initX : Byte := 0x00#8

/-- `INIT_Y`. DESIGN CHOICE (log entry 2): R34 leaves it open. Unsafe. -/
def initY : Byte := 0x00#8

/-- `INIT_SP`. DESIGN CHOICE (log entry 3): R34 leaves it open. Unsafe. -/
def initSp : Byte := 0x00#8

/-- What an address that memory does not list reads as: `INIT_MEM`. DESIGN CHOICE (log entry 4): R34
leaves it open. Unsafe. -/
def unlistedByte : Byte := 0x00#8

end Config

end Sys2Proof
end

