-- ==== Sys2Proof/Machine/State.lean ====
section
/-! DEFINITION. The state of the machine (10_state.md R20), the reasons a step can stop, and the state
right after reset (10_state.md R34). -/

namespace Sys2Proof.Machine

/-- The status of the fetch-execute loop (10_state.md R32). -/
inductive Run where
  | running
  | halted
  | faulted (op : Byte) (addr : Word)
  deriving DecidableEq, Repr

/-- The bits of P, in bit order 0 to 7 (10_state.md R25). -/
inductive Flag where
  | carry
  | zero
  | interruptDisable
  | decimal
  | brk
  | unused
  | overflow
  | negative
  deriving DecidableEq, Repr

/-- The 65,536 bytes of R31 as address and byte pairs, addresses strictly rising, none equal to
`Config.unlistedByte`, which every address not listed reads as (`Memory.wf` in Machine/Ops.lean). -/
abbrev Memory := List Host.Cell

/-- The whole state (10_state.md R20), and the parameter `PROFILE` (00_scope.md R8; log entry 1). -/
structure State where
  a : Byte
  x : Byte
  y : Byte
  sp : Byte
  p : Byte
  pc : Word
  cycles : Nat
  mem : Memory
  run : Run
  profile : Profile
  deriving DecidableEq, Repr

/-- Why the machine is stopped with a failure. -/
inductive Fault where
  /-- Raised by `step` on a state whose `Run` is `Faulted(op, addr)` (60_exceptions.md R301): the run
  ended at an opcode without a handler. Safe: R301 makes that state terminal. -/
  | unknownOpcode (op : Byte) (addr : Word)
  deriving DecidableEq, Repr

/-- Why a step is not taken. -/
inductive Refusal where
  /-- Raised by an arm of `exec` whose instruction has no meaning yet; no arm does. Safe. -/
  | notModelled (mnemonic : String)
  /-- Raised by `step` on a state whose `Run` is `Halted`: the run ended with BRK, and a step is not
  enabled (70_reset_and_hazards.md R413; log entry 6). Safe. -/
  | runHalted
  deriving DecidableEq, Repr

/-- What a step answers. -/
abbrev Result := Host.Outcome State Fault Refusal

/-- `A <- v`. -/
def State.setA (s : State) (v : Byte) : State := { s with a := v }

/-- `X <- v`. -/
def State.setX (s : State) (v : Byte) : State := { s with x := v }

/-- `Y <- v`. -/
def State.setY (s : State) (v : Byte) : State := { s with y := v }

/-- `SP <- v`. -/
def State.setSp (s : State) (v : Byte) : State := { s with sp := v }

/-- `P <- v`. -/
def State.setP (s : State) (v : Byte) : State := { s with p := v }

/-- `PC <- v`. -/
def State.setPc (s : State) (v : Word) : State := { s with pc := v }

/-- `Cycles <- n`. -/
def State.setCycles (s : State) (n : Nat) : State := { s with cycles := n }

/-- The whole of `Mem` replaced. -/
def State.setMem (s : State) (m : Memory) : State := { s with mem := m }

/-- `Run <- r`. -/
def State.setRun (s : State) (r : Run) : State := { s with run := r }

/-- The state at the start of a run (10_state.md R34) by the run entry point, with no image loaded.
PC, P, Cycles, Run: R34. A, X, Y, SP and memory: log entries 2, 3 and 4. -/
def State.reset : State where
  a := Config.initA
  x := Config.initX
  y := Config.initY
  sp := Config.initSp
  p := Config.launchP
  pc := Config.entryPc
  cycles := 0
  mem := []
  run := .running
  profile := Config.resetProfile

end Sys2Proof.Machine
end

