-- ==== Sys2Proof/Machine/Flags.lean ====
section
/-! DEFINITION. The bit utilities (10_state.md R27), the flags of P (R25, R26), the shared flag
helpers (40_execution_core.md R119 to R124), and the bytes of P that go to and come from the stack. -/

namespace Sys2Proof.Machine

/-! ## Bits of a byte (10_state.md R27) -/

/-- `getBit(b, pos) = (b >> pos) & 1 = 1` (R27). -/
def getBit (b : Byte) (pos : Fin 8) : Bool := (b >>> pos.val) &&& 1#8 == 1#8

/-- `setBit(b, pos) = b | (1 << pos)` (R27). -/
def setBit (b : Byte) (pos : Fin 8) : Byte := b ||| (1#8 <<< pos.val)

/-- `clearBit(b, pos) = b & ~(1 << pos)` (R27). -/
def clearBit (b : Byte) (pos : Fin 8) : Byte := b &&& ~~~(1#8 <<< pos.val)

/-- One bit written with a truth value (R27, 40_execution_core.md R124). -/
def putBit (b : Byte) (pos : Fin 8) (v : Bool) : Byte := if v then setBit b pos else clearBit b pos

/-! ## The flags of P (10_state.md R25) -/

/-- The bit of P a flag stands at (R25). -/
def flagBit : Flag → Fin 8
  | .carry => 0
  | .zero => 1
  | .interruptDisable => 2
  | .decimal => 3
  | .brk => 4
  | .unused => 5
  | .overflow => 6
  | .negative => 7

/-- `P.f`, read. -/
def flag (f : Flag) (s : State) : Bool := getBit s.p (flagBit f)

/-- `P.f <- v`; the other bits of P keep their value (00_scope.md R12, R26). -/
def setFlag (f : Flag) (v : Bool) (s : State) : State := s.setP (putBit s.p (flagBit f) v)

/-! ## Shared flag helpers (40_execution_core.md R119 to R123) -/

/-- `setZeroFlag(v)` (R119). -/
def setZeroFlag (v : Byte) (s : State) : State := setFlag .zero (v == 0#8) s

/-- `setNegativeFlag(v)` (R120). -/
def setNegativeFlag (v : Byte) (s : State) : State := setFlag .negative (getBit v 7) s

/-- `SetZN(v)` (R121). -/
def setZN (v : Byte) (s : State) : State := setNegativeFlag v (setZeroFlag v s)

/-- The condition of `setCarryFlag(a, b)`: `a > 255 - b` (R122). -/
def carryOf (a b : Byte) : Bool := decide (a.toNat > 255 - b.toNat)

/-- `setCarryFlag(a, b)` (R122). -/
def setCarryFlag (a b : Byte) (s : State) : State := setFlag .carry (carryOf a b) s

/-- The condition of `setOverflowAdd(a, b)`: `a + b > 255` on unbounded integers (R123). -/
def overflowAddOf (a b : Byte) : Bool := decide (a.toNat + b.toNat > 255)

/-- `setOverflowAdd(a, b)` (R123). -/
def setOverflowAdd (a b : Byte) (s : State) : State := setFlag .overflow (overflowAddOf a b) s

/-- The condition of `setOverflowSub(a, b)`: `a - b < 0` on unbounded integers (R123). -/
def overflowSubOf (a b : Byte) : Bool := decide ((a.toNat : Int) - (b.toNat : Int) < 0)

/-- `setOverflowSub(a, b)` (R123). -/
def setOverflowSub (a b : Byte) (s : State) : State := setFlag .overflow (overflowSubOf a b) s

/-- A flag as the integer 0 or 1 (the `P.C` of a sum). -/
def bitNat (v : Bool) : Nat := if v then 1 else 0

/-- The signed overflow of the NMOS sum: `((a ^ A) & (m ^ A) & 0x80) != 0`, `r` the new A
(43_logical_arith.md R174). -/
def signedOverflowOf (a m r : Byte) : Bool := (a ^^^ r) &&& (m ^^^ r) &&& 0x80#8 != 0#8

/-! ## P on the stack -/

/-- The byte PHP pushes (42_transfer_stack.md R157). -/
def pushedStatus (pr : Profile) (p : Byte) : Byte :=
  match pr with
  | .source => p
  | .nmos => p ||| 0x30#8

/-- P after PLP or RTI pulled `v`, `p` the P before (42_transfer_stack.md R159, 48_jump_subroutine.md R223). -/
def pulledStatus (pr : Profile) (v p : Byte) : Byte :=
  match pr with
  | .source => v
  | .nmos => (v &&& 0xCF#8) ||| (p &&& 0x30#8)

/-- The byte BRK pushes: P with the break bit forced set (49_flag_break_nop.md R237). -/
def brokenStatus (pr : Profile) (p : Byte) : Byte :=
  match pr with
  | .source => p ||| 0x10#8
  | .nmos => p ||| 0x30#8

end Sys2Proof.Machine
end

