-- ==== Sys2Proof/Machine/Ops.lean ====
section
/-! DEFINITION. The named operations over memory and registers: one-byte memory access (00_scope.md
R13, 20_memory.md R54), the stack (40_execution_core.md R125), the fetch (R101, R104), the end of an
instruction (R101, R103, R126), the UnknownOpcode fault (60_exceptions.md R301), trap entry by BRK
(R304), and the return from a trap (R307). -/

namespace Sys2Proof.Machine

/-! ## Memory -/

/-- The first listed byte at address `a`, else `Config.unlistedByte`. -/
def Memory.lookup : Memory → Nat → Byte
  | [], _ => Config.unlistedByte
  | (k, v) :: rest, a => if k = a then v else Memory.lookup rest a

/-- Memory without any entry at `a`. -/
def Memory.erase : Memory → Nat → Memory
  | [], _ => []
  | (k, v) :: rest, a => if k = a then Memory.erase rest a else (k, v) :: Memory.erase rest a

/-- Memory with the entry `(a, v)`, in the order of addresses. -/
def Memory.insert : Memory → Nat → Byte → Memory
  | [], a, v => [(a, v)]
  | (k, w) :: rest, a, v =>
    if a < k then (a, v) :: (k, w) :: rest
    else if a = k then (a, v) :: rest
    else (k, w) :: Memory.insert rest a v

/-- `MemRead(a, 1)` (00_scope.md R13). -/
def Memory.read (m : Memory) (a : Word) : Byte := Memory.lookup m a.toNat

/-- `MemWrite(a, 1, v)` (00_scope.md R13): the one byte named changes. Writing what an unlisted
address reads as removes the entry. -/
def Memory.write (m : Memory) (a : Word) (v : Byte) : Memory :=
  if v = Config.unlistedByte then Memory.erase m a.toNat else Memory.insert m a.toNat v

/-- Addresses strictly rising from `lo` on, inside the address space, none with the unlisted byte. -/
def Memory.wfFrom : Nat → Memory → Bool
  | _, [] => true
  | lo, (k, v) :: rest =>
    decide (lo ≤ k) && decide (k < 65536) && (v != Config.unlistedByte) && Memory.wfFrom (k + 1) rest

/-- The canonical form of memory: equal memories are equal lists. -/
def Memory.wf (m : Memory) : Bool := Memory.wfFrom 0 m

/-- `MemRead(a, 1)` of the machine's memory. -/
def loadByte (a : Word) (s : State) : Byte := Memory.read s.mem a

/-- `MemWrite(a, 1, v)` of the machine's memory. -/
def storeByte (a : Word) (v : Byte) (s : State) : State := s.setMem (Memory.write s.mem a v)

/-- Bytes written one after another from address `a` on; addresses wrap (20_memory.md R56). -/
def storeBytes : Word → List Byte → State → State
  | _, [], s => s
  | a, v :: rest, s => storeBytes (a + 1#16) rest (storeByte a v s)

/-! ## Stack (40_execution_core.md R125) -/

/-- `zext_16(b)` (00_scope.md R11). -/
def zext16 (b : Byte) : Word := b.setWidth 16

/-- The stack byte SP addresses: `0x0100 | SP` (10_state.md R28). -/
def stackAddress (sp : Byte) : Word := 0x0100#16 ||| zext16 sp

/-- `Push8(v)` (R125). -/
def push8 (v : Byte) (s : State) : State :=
  let s := storeByte (stackAddress s.sp) v s
  s.setSp (s.sp - 1#8)

/-- The state after `Pull8()` (R125). -/
def pull8 (s : State) : State := s.setSp (s.sp + 1#8)

/-- The byte `Pull8()` returns (R125). -/
def pulled8 (s : State) : Byte := loadByte (stackAddress (s.sp + 1#8)) s

/-- Two bytes pushed, high byte first (48_jump_subroutine.md R221, 49_flag_break_nop.md R237). -/
def push16 (v : Word) (s : State) : State := push8 (loByte v) (push8 (hiByte v) s)

/-- The 16-bit value two pulls give, low byte first (R222, R223). -/
def pulled16 (s : State) : Word := wordOf (pulled8 (pull8 s)) (pulled8 s)

/-! ## Fetch and the end of an instruction -/

/-- The opcode byte at PC and the two bytes after it (40_execution_core.md R101, R104), addresses
wrapping. Reads have no side effect (20_memory.md R55), so reading all three is reading those the
length asks for (log entry 8). -/
def fetchBytes (s : State) : List Byte :=
  [loadByte s.pc s, loadByte (s.pc + 1#16) s, loadByte (s.pc + 2#16) s]

/-- `Cycles <- Cycles + n` (R126). -/
def charge (n : Nat) (s : State) : State := s.setCycles (s.cycles + n)

/-- The end of an instruction that does not transfer control: its base cycles and
`PC <- u16(PC + len)` (R101, R103). -/
def advance (i : Instr) (s : State) : Result :=
  .next (charge (baseCycles i) (s.setPc (s.pc + BitVec.ofNat 16 (instrLength i))))

/-- The end of an instruction whose rule wrote PC: its base cycles (R101). -/
def transfer (i : Instr) (s : State) : Result := .next (charge (baseCycles i) s)

/-! ## Exceptions -/

/-- `raise UnknownOpcode(op, addr)` (60_exceptions.md R301): the record, and nothing else. -/
def raiseUnknownOpcode (op : Byte) (addr : Word) (s : State) : State := s.setRun (.faulted op addr)

/-- `halt` (60_exceptions.md R303). -/
def halt (s : State) : State := s.setRun .halted

/-- The address of the low byte of the BRK vector (20_memory.md R51). -/
def brkVectorLow : Word := 0xFFFE#16

/-- The address of the high byte of the BRK vector (20_memory.md R51). -/
def brkVectorHigh : Word := 0xFFFF#16

/-- P after trap entry: B set, and in the NMOS profile I (49_flag_break_nop.md R237). -/
def markBroken (s : State) : State :=
  match s.profile with
  | .source => setFlag .brk true s
  | .nmos => setFlag .interruptDisable true (setFlag .brk true s)

/-- Trap entry by BRK (60_exceptions.md R304, 49_flag_break_nop.md R237): PC + 2 and P saved on the
stack, P marked, PC from the vector. -/
def takeBreak (s : State) : State :=
  let saved := push8 (brokenStatus s.profile s.p) (push16 (s.pc + 2#16) s)
  let marked := markBroken saved
  marked.setPc (wordOf (loadByte brkVectorHigh marked) (loadByte brkVectorLow marked))

/-- P pulled from the stack, as PLP and RTI do (42_transfer_stack.md R159). -/
def pullStatus (s : State) : State := (pull8 s).setP (pulledStatus s.profile (pulled8 s) s.p)

/-- The return from a trap (60_exceptions.md R307, 48_jump_subroutine.md R223): P, then PC low and PC
high, from the stack. -/
def returnFromTrap (s : State) : State :=
  let s1 := pullStatus s
  (pull8 (pull8 s1)).setPc (pulled16 s1)

end Sys2Proof.Machine
end

