-- ==== Sys2Proof/Machine/Operands.lean ====
section
/-! DEFINITION. The addressing-mode resolver (40_execution_core.md R105 to R118). Immediate,
accumulator and implied operands are the instruction's own data (R105, R116, R117). -/

namespace Sys2Proof.Machine

/-- `sext_16(b)`, as a 16-bit addend (00_scope.md R11). -/
def sext16 (b : Byte) : Word := b.signExtend 16

/-- A byte of page 0 (R106). -/
def zeroPage (b : Byte) : Word := zext16 b

/-- The 16-bit pointer at zero-page cell `p`; its high byte wraps in page 0 (R112, R113, NMOS). -/
def zeroPagePointer (p : Byte) (s : State) : Word :=
  wordOf (loadByte (zeroPage (p + 1#8)) s) (loadByte (zeroPage p) s)

/-- The effective address `EA` of an operand in memory (R106 to R113). -/
def effectiveAddress (o : MemOperand) (s : State) : Word :=
  match o with
  | .zp zz => zeroPage zz
  | .zpx zz => zeroPage (zz + s.x)
  | .zpy zz => zeroPage (zz + s.y)
  | .abs hhll => hhll
  | .absx hhll => hhll + zext16 s.x
  | .absy hhll => hhll + zext16 s.y
  | .indx zz =>
    match s.profile with
    | .source => zeroPage (zz + s.x)
    | .nmos => zeroPagePointer (zz + s.x) s
  | .indy zz =>
    match s.profile with
    | .source => zeroPage (zz + s.y)
    | .nmos => zeroPagePointer zz s + zext16 s.y

/-- The operand value `M = MemRead(EA, 1)` (R118). -/
def operandValue (o : MemOperand) (s : State) : Byte := loadByte (effectiveAddress o s) s

/-- A byte written at the operand's `EA`. -/
def storeOperand (o : MemOperand) (v : Byte) (s : State) : State := storeByte (effectiveAddress o s) v s

/-- The target of `JMP (ptr)`, its high byte read from the same page (R114). -/
def indirectTarget (ptr : Word) (s : State) : Word :=
  wordOf (loadByte ((ptr &&& 0xFF00#16) ||| zext16 (loByte ptr + 1#8)) s) (loadByte ptr s)

/-- The target of a branch whose opcode is at PC (R115). -/
def relativeTarget (oo : Byte) (s : State) : Word := s.pc + 2#16 + sext16 oo

end Sys2Proof.Machine
end

