-- ==== Sys2Proof/Machine/Branch.lean ====
section
/-! DEFINITION. Branch instructions (47_branch.md): the effect of each mnemonic once, then one meaning per opcode row. -/

namespace Sys2Proof.Machine

/-- `Branch(cond)` (R210): taken, PC is the target and one cycle more than the base is charged; else PC is
the address after the two bytes. -/
def branch (i : Instr) (cond : Bool) (oo : Byte) (s : State) : Result :=
  if cond then transfer i (charge 1 (s.setPc (relativeTarget oo s)))
  else advance i s

/-- BCC `rel`, opcode 90 (R211). -/
def execBcc (oo : Byte) (s : State) : Result := branch (.bcc oo) (!flag .carry s) oo s

/-- BCS `rel`, opcode B0 (R212). -/
def execBcs (oo : Byte) (s : State) : Result := branch (.bcs oo) (flag .carry s) oo s

/-- BEQ `rel`, opcode F0 (R213). -/
def execBeq (oo : Byte) (s : State) : Result := branch (.beq oo) (flag .zero s) oo s

/-- The condition of BMI: `P.Z == 0` in the SOURCE profile, `P.N == 1` in the NMOS profile (R214). -/
def minusCondition (s : State) : Bool :=
  match s.profile with
  | .source => !flag .zero s
  | .nmos => flag .negative s

/-- BMI `rel`, opcode 30 (R214). -/
def execBmi (oo : Byte) (s : State) : Result := branch (.bmi oo) (minusCondition s) oo s

/-- BNE `rel`, opcode D0 (R215). -/
def execBne (oo : Byte) (s : State) : Result := branch (.bne oo) (!flag .zero s) oo s

/-- BPL `rel`, opcode 10 (R216). -/
def execBpl (oo : Byte) (s : State) : Result := branch (.bpl oo) (!flag .negative s) oo s

/-- BVC `rel`, opcode 50 (R217). -/
def execBvc (oo : Byte) (s : State) : Result := branch (.bvc oo) (!flag .overflow s) oo s

/-- BVS `rel`, opcode 70 (R218). -/
def execBvs (oo : Byte) (s : State) : Result := branch (.bvs oo) (flag .overflow s) oo s

end Sys2Proof.Machine
end

