-- ==== Sys2Proof/Machine/Compare.lean ====
section
/-! DEFINITION. Compare instructions (44_compare.md): the effect of each mnemonic once, then one meaning per opcode row. -/

namespace Sys2Proof.Machine

/-- `Compare(r, m)` (R180): in the SOURCE profile N is not written. -/
def compareOp (r m : Byte) (s : State) : State :=
  match s.profile with
  | .source => setFlag .zero (r == m) (setFlag .carry (decide (r.toNat > m.toNat)) s)
  | .nmos =>
    setFlag .negative (getBit (r - m) 7)
      (setFlag .zero (r == m) (setFlag .carry (decide (r.toNat ≥ m.toNat)) s))

/-- CMP `imm`, opcode C9 (R181). -/
def execCmpImm (ii : Byte) (s : State) : Result := advance (.cmpImm ii) (compareOp s.a ii s)

/-- CMP `zp`, opcode C5 (R181). -/
def execCmpZp (zz : Byte) (s : State) : Result :=
  advance (.cmpZp zz) (compareOp s.a (operandValue (.zp zz) s) s)

/-- CMP `zpx`, opcode D5 (R181). -/
def execCmpZpx (zz : Byte) (s : State) : Result :=
  advance (.cmpZpx zz) (compareOp s.a (operandValue (.zpx zz) s) s)

/-- CMP `abs`, opcode CD (R181). -/
def execCmpAbs (hhll : Word) (s : State) : Result :=
  advance (.cmpAbs hhll) (compareOp s.a (operandValue (.abs hhll) s) s)

/-- CMP `absx`, opcode DD (R181). -/
def execCmpAbsx (hhll : Word) (s : State) : Result :=
  advance (.cmpAbsx hhll) (compareOp s.a (operandValue (.absx hhll) s) s)

/-- CMP `absy`, opcode D9 (R181). -/
def execCmpAbsy (hhll : Word) (s : State) : Result :=
  advance (.cmpAbsy hhll) (compareOp s.a (operandValue (.absy hhll) s) s)

/-- CMP `indx`, opcode C1 (R181). -/
def execCmpIndx (zz : Byte) (s : State) : Result :=
  advance (.cmpIndx zz) (compareOp s.a (operandValue (.indx zz) s) s)

/-- CMP `indy`, opcode D1 (R181). -/
def execCmpIndy (zz : Byte) (s : State) : Result :=
  advance (.cmpIndy zz) (compareOp s.a (operandValue (.indy zz) s) s)

/-- CPX `imm`, opcode E0 (R182). -/
def execCpxImm (ii : Byte) (s : State) : Result := advance (.cpxImm ii) (compareOp s.x ii s)

/-- CPX `zp`, opcode E4 (R182). -/
def execCpxZp (zz : Byte) (s : State) : Result :=
  advance (.cpxZp zz) (compareOp s.x (operandValue (.zp zz) s) s)

/-- CPX `abs`, opcode EC (R182). -/
def execCpxAbs (hhll : Word) (s : State) : Result :=
  advance (.cpxAbs hhll) (compareOp s.x (operandValue (.abs hhll) s) s)

/-- CPY `imm`, opcode C0 (R183). -/
def execCpyImm (ii : Byte) (s : State) : Result := advance (.cpyImm ii) (compareOp s.y ii s)

/-- CPY `zp`, opcode C4 (R183). -/
def execCpyZp (zz : Byte) (s : State) : Result :=
  advance (.cpyZp zz) (compareOp s.y (operandValue (.zp zz) s) s)

/-- CPY `abs`, opcode CC (R183). -/
def execCpyAbs (hhll : Word) (s : State) : Result :=
  advance (.cpyAbs hhll) (compareOp s.y (operandValue (.abs hhll) s) s)

end Sys2Proof.Machine
end

