-- ==== Sys2Proof/Machine/FlagBreak.lean ====
section
/-! DEFINITION. Flag-control, break and no-op instructions (49_flag_break_nop.md): the effect of each mnemonic once, then one meaning per opcode row. -/

namespace Sys2Proof.Machine

/-- CLC `imp`, opcode 18 (R230). -/
def execClc (s : State) : Result := advance .clc (setFlag .carry false s)

/-- CLD `imp`, opcode D8 (R231). -/
def execCld (s : State) : Result := advance .cld (setFlag .decimal false s)

/-- CLI `imp`, opcode 58 (R232). -/
def execCli (s : State) : Result := advance .cli (setFlag .interruptDisable false s)

/-- CLV `imp`, opcode B8 (R233). -/
def execClv (s : State) : Result := advance .clv (setFlag .overflow false s)

/-- SEC `imp`, opcode 38 (R234). -/
def execSec (s : State) : Result := advance .sec (setFlag .carry true s)

/-- SED `imp`, opcode F8 (R235). -/
def execSed (s : State) : Result := advance .sed (setFlag .decimal true s)

/-- SEI `imp`, opcode 78 (R236). -/
def execSei (s : State) : Result := advance .sei (setFlag .interruptDisable true s)

/-- BRK `imp`, opcode 00 (R237). -/
def execBrk (s : State) : Result := transfer .brk (halt (takeBreak s))

/-- NOP `imp`, opcode EA (R238). -/
def execNop (s : State) : Result := advance .nop s

end Sys2Proof.Machine
end

