-- ==== Sys2Proof/Machine/LoadStore.lean ====
section
/-! DEFINITION. Load and store instructions (41_load_store.md): the effect of each mnemonic once, then one meaning per opcode row. -/

namespace Sys2Proof.Machine

/-- `A <- M; SetZN(A)` (R140). -/
def loadA (m : Byte) (s : State) : State := setZN m (s.setA m)

/-- LDA `imm`, opcode A9 (R140). -/
def execLdaImm (ii : Byte) (s : State) : Result := advance (.ldaImm ii) (loadA ii s)

/-- LDA `zp`, opcode A5 (R140). -/
def execLdaZp (zz : Byte) (s : State) : Result := advance (.ldaZp zz) (loadA (operandValue (.zp zz) s) s)

/-- LDA `zpx`, opcode B5 (R140). -/
def execLdaZpx (zz : Byte) (s : State) : Result :=
  advance (.ldaZpx zz) (loadA (operandValue (.zpx zz) s) s)

/-- LDA `abs`, opcode AD (R140). -/
def execLdaAbs (hhll : Word) (s : State) : Result :=
  advance (.ldaAbs hhll) (loadA (operandValue (.abs hhll) s) s)

/-- LDA `absx`, opcode BD (R140). -/
def execLdaAbsx (hhll : Word) (s : State) : Result :=
  advance (.ldaAbsx hhll) (loadA (operandValue (.absx hhll) s) s)

/-- LDA `absy`, opcode B9 (R140). -/
def execLdaAbsy (hhll : Word) (s : State) : Result :=
  advance (.ldaAbsy hhll) (loadA (operandValue (.absy hhll) s) s)

/-- LDA `indx`, opcode A1 (R140). -/
def execLdaIndx (zz : Byte) (s : State) : Result :=
  advance (.ldaIndx zz) (loadA (operandValue (.indx zz) s) s)

/-- LDA `indy`, opcode B1 (R140). -/
def execLdaIndy (zz : Byte) (s : State) : Result :=
  advance (.ldaIndy zz) (loadA (operandValue (.indy zz) s) s)

/-- `X <- M; SetZN(X)` (R141). -/
def loadX (m : Byte) (s : State) : State := setZN m (s.setX m)

/-- LDX `imm`, opcode A2 (R141). -/
def execLdxImm (ii : Byte) (s : State) : Result := advance (.ldxImm ii) (loadX ii s)

/-- LDX `zp`, opcode A6 (R141). -/
def execLdxZp (zz : Byte) (s : State) : Result := advance (.ldxZp zz) (loadX (operandValue (.zp zz) s) s)

/-- LDX `zpy`, opcode B6 (R141). -/
def execLdxZpy (zz : Byte) (s : State) : Result :=
  advance (.ldxZpy zz) (loadX (operandValue (.zpy zz) s) s)

/-- LDX `abs`, opcode AE (R141). -/
def execLdxAbs (hhll : Word) (s : State) : Result :=
  advance (.ldxAbs hhll) (loadX (operandValue (.abs hhll) s) s)

/-- LDX `absy`, opcode BE (R141). -/
def execLdxAbsy (hhll : Word) (s : State) : Result :=
  advance (.ldxAbsy hhll) (loadX (operandValue (.absy hhll) s) s)

/-- `Y <- M; SetZN(Y)` (R142). -/
def loadY (m : Byte) (s : State) : State := setZN m (s.setY m)

/-- LDY `imm`, opcode A0 (R142). -/
def execLdyImm (ii : Byte) (s : State) : Result := advance (.ldyImm ii) (loadY ii s)

/-- LDY `zp`, opcode A4 (R142). -/
def execLdyZp (zz : Byte) (s : State) : Result := advance (.ldyZp zz) (loadY (operandValue (.zp zz) s) s)

/-- LDY `zpx`, opcode B4 (R142). -/
def execLdyZpx (zz : Byte) (s : State) : Result :=
  advance (.ldyZpx zz) (loadY (operandValue (.zpx zz) s) s)

/-- LDY `abs`, opcode AC (R142). -/
def execLdyAbs (hhll : Word) (s : State) : Result :=
  advance (.ldyAbs hhll) (loadY (operandValue (.abs hhll) s) s)

/-- LDY `absx`, opcode BC (R142). -/
def execLdyAbsx (hhll : Word) (s : State) : Result :=
  advance (.ldyAbsx hhll) (loadY (operandValue (.absx hhll) s) s)

/-- STA `zp`, opcode 85 (R143). -/
def execStaZp (zz : Byte) (s : State) : Result := advance (.staZp zz) (storeOperand (.zp zz) s.a s)

/-- STA `zpx`, opcode 95 (R143). -/
def execStaZpx (zz : Byte) (s : State) : Result := advance (.staZpx zz) (storeOperand (.zpx zz) s.a s)

/-- STA `abs`, opcode 8D (R143). -/
def execStaAbs (hhll : Word) (s : State) : Result :=
  advance (.staAbs hhll) (storeOperand (.abs hhll) s.a s)

/-- STA `absx`, opcode 9D (R143). -/
def execStaAbsx (hhll : Word) (s : State) : Result :=
  advance (.staAbsx hhll) (storeOperand (.absx hhll) s.a s)

/-- STA `absy`, opcode 99 (R143). -/
def execStaAbsy (hhll : Word) (s : State) : Result :=
  advance (.staAbsy hhll) (storeOperand (.absy hhll) s.a s)

/-- STA `indx`, opcode 81 (R143). -/
def execStaIndx (zz : Byte) (s : State) : Result := advance (.staIndx zz) (storeOperand (.indx zz) s.a s)

/-- STA `indy`, opcode 91 (R143). -/
def execStaIndy (zz : Byte) (s : State) : Result := advance (.staIndy zz) (storeOperand (.indy zz) s.a s)

/-- STX `zp`, opcode 86 (R144). -/
def execStxZp (zz : Byte) (s : State) : Result := advance (.stxZp zz) (storeOperand (.zp zz) s.x s)

/-- STX `zpy`, opcode 96 (R144). -/
def execStxZpy (zz : Byte) (s : State) : Result := advance (.stxZpy zz) (storeOperand (.zpy zz) s.x s)

/-- STX `abs`, opcode 8E (R144). -/
def execStxAbs (hhll : Word) (s : State) : Result :=
  advance (.stxAbs hhll) (storeOperand (.abs hhll) s.x s)

/-- STY `zp`, opcode 84 (R145). -/
def execStyZp (zz : Byte) (s : State) : Result := advance (.styZp zz) (storeOperand (.zp zz) s.y s)

/-- STY `zpx`, opcode 94 (R145). -/
def execStyZpx (zz : Byte) (s : State) : Result := advance (.styZpx zz) (storeOperand (.zpx zz) s.y s)

/-- STY `abs`, opcode 8C (R145). -/
def execStyAbs (hhll : Word) (s : State) : Result :=
  advance (.styAbs hhll) (storeOperand (.abs hhll) s.y s)

end Sys2Proof.Machine
end

