-- ==== Sys2Proof/Machine/IncDec.lean ====
section
/-! DEFINITION. Increment and decrement instructions (46_inc_dec.md): the effect of each mnemonic once, then one meaning per opcode row. -/

namespace Sys2Proof.Machine

/-- `r <- u8(M + 1); MemWrite(EA, 1, r); SetZN(r)` (R200). -/
def incMem (o : MemOperand) (s : State) : State :=
  let r := operandValue o s + 1#8
  setZN r (storeOperand o r s)

/-- INC `zp`, opcode E6 (R200). -/
def execIncZp (zz : Byte) (s : State) : Result := advance (.incZp zz) (incMem (.zp zz) s)

/-- INC `zpx`, opcode F6 (R200). -/
def execIncZpx (zz : Byte) (s : State) : Result := advance (.incZpx zz) (incMem (.zpx zz) s)

/-- INC `abs`, opcode EE (R200). -/
def execIncAbs (hhll : Word) (s : State) : Result := advance (.incAbs hhll) (incMem (.abs hhll) s)

/-- INC `absx`, opcode FE (R200). -/
def execIncAbsx (hhll : Word) (s : State) : Result := advance (.incAbsx hhll) (incMem (.absx hhll) s)

/-- `r <- u8(M - 1); MemWrite(EA, 1, r); SetZN(r)` (R201). -/
def decMem (o : MemOperand) (s : State) : State :=
  let r := operandValue o s - 1#8
  setZN r (storeOperand o r s)

/-- DEC `zp`, opcode C6 (R201). -/
def execDecZp (zz : Byte) (s : State) : Result := advance (.decZp zz) (decMem (.zp zz) s)

/-- DEC `zpx`, opcode D6 (R201). -/
def execDecZpx (zz : Byte) (s : State) : Result := advance (.decZpx zz) (decMem (.zpx zz) s)

/-- DEC `abs`, opcode CE (R201). -/
def execDecAbs (hhll : Word) (s : State) : Result := advance (.decAbs hhll) (decMem (.abs hhll) s)

/-- DEC `absx`, opcode DE (R201). -/
def execDecAbsx (hhll : Word) (s : State) : Result := advance (.decAbsx hhll) (decMem (.absx hhll) s)

/-- INX `imp`, opcode E8 (R202). -/
def execInx (s : State) : Result := advance .inx (loadX (s.x + 1#8) s)

/-- INY `imp`, opcode C8 (R203). -/
def execIny (s : State) : Result := advance .iny (loadY (s.y + 1#8) s)

/-- DEX `imp`, opcode CA (R204). -/
def execDex (s : State) : Result := advance .dex (loadX (s.x - 1#8) s)

/-- DEY `imp`, opcode 88 (R205). -/
def execDey (s : State) : Result := advance .dey (loadY (s.y - 1#8) s)

end Sys2Proof.Machine
end

