-- ==== Sys2Proof/Machine/Jump.lean ====
section
/-! DEFINITION. Jump, subroutine and return instructions (48_jump_subroutine.md): the effect of each mnemonic once, then one meaning per opcode row. -/

namespace Sys2Proof.Machine

/-- JMP `abs`, opcode 4C (R220). -/
def execJmpAbs (hhll : Word) (s : State) : Result := transfer (.jmpAbs hhll) (s.setPc hhll)

/-- JMP `ind`, opcode 6C (R220). -/
def execJmpInd (hhll : Word) (s : State) : Result :=
  transfer (.jmpInd hhll) (s.setPc (indirectTarget hhll s))

/-- What JSR adds to its own address for the value it pushes: 1 in SOURCE, 2 in NMOS (R221). -/
def returnOffset (pr : Profile) : Word :=
  match pr with
  | .source => 1#16
  | .nmos => 2#16

/-- `Push8(ret[15:8]); Push8(ret[7:0]); PC <- target` (R221). -/
def callSubroutine (target : Word) (s : State) : State :=
  (push16 (s.pc + returnOffset s.profile) s).setPc target

/-- JSR `abs`, opcode 20 (R221). -/
def execJsr (hhll : Word) (s : State) : Result := transfer (.jsr hhll) (callSubroutine hhll s)

/-- What RTS adds to the value it pulls: 2 in SOURCE, 1 in NMOS (R222). -/
def resumeOffset (pr : Profile) : Word :=
  match pr with
  | .source => 2#16
  | .nmos => 1#16

/-- `lo <- Pull8(); hi <- Pull8(); PC <- u16({hi, lo} + offset)` (R222). -/
def returnFromSubroutine (s : State) : State :=
  (pull8 (pull8 s)).setPc (pulled16 s + resumeOffset s.profile)

/-- RTS `imp`, opcode 60 (R222). -/
def execRts (s : State) : Result := transfer .rts (returnFromSubroutine s)

/-- RTI `imp`, opcode 40 (R223). -/
def execRti (s : State) : Result := transfer .rti (returnFromTrap s)

end Sys2Proof.Machine
end

