-- ==== Sys2Proof/Machine/LogicalArith.lean ====
section
/-! DEFINITION. Logical and arithmetic instructions (43_logical_arith.md): the effect of each mnemonic once, then one meaning per opcode row. -/

namespace Sys2Proof.Machine

/-- `A <- A & M; SetZN(A)` (R170). -/
def andA (m : Byte) (s : State) : State := loadA (s.a &&& m) s

/-- AND `imm`, opcode 29 (R170). -/
def execAndImm (ii : Byte) (s : State) : Result := advance (.andImm ii) (andA ii s)

/-- AND `zp`, opcode 25 (R170). -/
def execAndZp (zz : Byte) (s : State) : Result := advance (.andZp zz) (andA (operandValue (.zp zz) s) s)

/-- AND `zpx`, opcode 35 (R170). -/
def execAndZpx (zz : Byte) (s : State) : Result :=
  advance (.andZpx zz) (andA (operandValue (.zpx zz) s) s)

/-- AND `abs`, opcode 2D (R170). -/
def execAndAbs (hhll : Word) (s : State) : Result :=
  advance (.andAbs hhll) (andA (operandValue (.abs hhll) s) s)

/-- AND `absx`, opcode 3D (R170). -/
def execAndAbsx (hhll : Word) (s : State) : Result :=
  advance (.andAbsx hhll) (andA (operandValue (.absx hhll) s) s)

/-- AND `absy`, opcode 39 (R170). -/
def execAndAbsy (hhll : Word) (s : State) : Result :=
  advance (.andAbsy hhll) (andA (operandValue (.absy hhll) s) s)

/-- AND `indx`, opcode 21 (R170). -/
def execAndIndx (zz : Byte) (s : State) : Result :=
  advance (.andIndx zz) (andA (operandValue (.indx zz) s) s)

/-- AND `indy`, opcode 31 (R170). -/
def execAndIndy (zz : Byte) (s : State) : Result :=
  advance (.andIndy zz) (andA (operandValue (.indy zz) s) s)

/-- `A <- A | M; SetZN(A)` (R171). -/
def orA (m : Byte) (s : State) : State := loadA (s.a ||| m) s

/-- ORA `imm`, opcode 09 (R171). -/
def execOraImm (ii : Byte) (s : State) : Result := advance (.oraImm ii) (orA ii s)

/-- ORA `zp`, opcode 05 (R171). -/
def execOraZp (zz : Byte) (s : State) : Result := advance (.oraZp zz) (orA (operandValue (.zp zz) s) s)

/-- ORA `zpx`, opcode 15 (R171). -/
def execOraZpx (zz : Byte) (s : State) : Result :=
  advance (.oraZpx zz) (orA (operandValue (.zpx zz) s) s)

/-- ORA `abs`, opcode 0D (R171). -/
def execOraAbs (hhll : Word) (s : State) : Result :=
  advance (.oraAbs hhll) (orA (operandValue (.abs hhll) s) s)

/-- ORA `absx`, opcode 1D (R171). -/
def execOraAbsx (hhll : Word) (s : State) : Result :=
  advance (.oraAbsx hhll) (orA (operandValue (.absx hhll) s) s)

/-- ORA `absy`, opcode 19 (R171). -/
def execOraAbsy (hhll : Word) (s : State) : Result :=
  advance (.oraAbsy hhll) (orA (operandValue (.absy hhll) s) s)

/-- ORA `indx`, opcode 01 (R171). -/
def execOraIndx (zz : Byte) (s : State) : Result :=
  advance (.oraIndx zz) (orA (operandValue (.indx zz) s) s)

/-- ORA `indy`, opcode 11 (R171). -/
def execOraIndy (zz : Byte) (s : State) : Result :=
  advance (.oraIndy zz) (orA (operandValue (.indy zz) s) s)

/-- `A <- A ^ M; SetZN(A)` (R172). -/
def eorA (m : Byte) (s : State) : State := loadA (s.a ^^^ m) s

/-- EOR `imm`, opcode 49 (R172). -/
def execEorImm (ii : Byte) (s : State) : Result := advance (.eorImm ii) (eorA ii s)

/-- EOR `zp`, opcode 45 (R172). -/
def execEorZp (zz : Byte) (s : State) : Result := advance (.eorZp zz) (eorA (operandValue (.zp zz) s) s)

/-- EOR `zpx`, opcode 55 (R172). -/
def execEorZpx (zz : Byte) (s : State) : Result :=
  advance (.eorZpx zz) (eorA (operandValue (.zpx zz) s) s)

/-- EOR `abs`, opcode 4D (R172). -/
def execEorAbs (hhll : Word) (s : State) : Result :=
  advance (.eorAbs hhll) (eorA (operandValue (.abs hhll) s) s)

/-- EOR `absx`, opcode 5D (R172). -/
def execEorAbsx (hhll : Word) (s : State) : Result :=
  advance (.eorAbsx hhll) (eorA (operandValue (.absx hhll) s) s)

/-- EOR `absy`, opcode 59 (R172). -/
def execEorAbsy (hhll : Word) (s : State) : Result :=
  advance (.eorAbsy hhll) (eorA (operandValue (.absy hhll) s) s)

/-- EOR `indx`, opcode 41 (R172). -/
def execEorIndx (zz : Byte) (s : State) : Result :=
  advance (.eorIndx zz) (eorA (operandValue (.indx zz) s) s)

/-- EOR `indy`, opcode 51 (R172). -/
def execEorIndy (zz : Byte) (s : State) : Result :=
  advance (.eorIndy zz) (eorA (operandValue (.indy zz) s) s)

/-- `P.Z <- ((A & M) == 0); P.V <- M[6]; P.N <- M[7]` (R173). -/
def testBits (m : Byte) (s : State) : State :=
  setFlag .negative (getBit m 7) (setFlag .overflow (getBit m 6) (setFlag .zero (s.a &&& m == 0#8) s))

/-- BIT `zp`, opcode 24 (R173). -/
def execBitZp (zz : Byte) (s : State) : Result :=
  advance (.bitZp zz) (testBits (operandValue (.zp zz) s) s)

/-- BIT `abs`, opcode 2C (R173). -/
def execBitAbs (hhll : Word) (s : State) : Result :=
  advance (.bitAbs hhll) (testBits (operandValue (.abs hhll) s) s)

/-- The NMOS branch of `AddOp(m)` (R174): carry-in added, signed overflow. -/
def addOpNmos (m : Byte) (s : State) : State :=
  let sum := s.a.toNat + m.toNat + bitNat (flag .carry s)
  let r := BitVec.ofNat 8 sum
  loadA r (setFlag .overflow (signedOverflowOf s.a m r) (setFlag .carry (decide (sum > 255)) s))

/-- `AddOp(m)` (R174). It never reads P.D. -/
def addOp (m : Byte) (s : State) : State :=
  match s.profile with
  | .source => loadA (s.a + m) (setOverflowAdd s.a m (setCarryFlag s.a m s))
  | .nmos => addOpNmos m s

/-- ADC `imm`, opcode 69 (R175). -/
def execAdcImm (ii : Byte) (s : State) : Result := advance (.adcImm ii) (addOp ii s)

/-- ADC `zp`, opcode 65 (R175). -/
def execAdcZp (zz : Byte) (s : State) : Result := advance (.adcZp zz) (addOp (operandValue (.zp zz) s) s)

/-- ADC `zpx`, opcode 75 (R175). -/
def execAdcZpx (zz : Byte) (s : State) : Result :=
  advance (.adcZpx zz) (addOp (operandValue (.zpx zz) s) s)

/-- ADC `abs`, opcode 6D (R175). -/
def execAdcAbs (hhll : Word) (s : State) : Result :=
  advance (.adcAbs hhll) (addOp (operandValue (.abs hhll) s) s)

/-- ADC `absx`, opcode 7D (R175). -/
def execAdcAbsx (hhll : Word) (s : State) : Result :=
  advance (.adcAbsx hhll) (addOp (operandValue (.absx hhll) s) s)

/-- ADC `absy`, opcode 79 (R175). -/
def execAdcAbsy (hhll : Word) (s : State) : Result :=
  advance (.adcAbsy hhll) (addOp (operandValue (.absy hhll) s) s)

/-- ADC `indx`, opcode 61 (R175). -/
def execAdcIndx (zz : Byte) (s : State) : Result :=
  advance (.adcIndx zz) (addOp (operandValue (.indx zz) s) s)

/-- ADC `indy`, opcode 71 (R175). -/
def execAdcIndy (zz : Byte) (s : State) : Result :=
  advance (.adcIndy zz) (addOp (operandValue (.indy zz) s) s)

/-- The effective subtrahend of the SOURCE profile: `u8(m + (1 - P.C))` (R176). -/
def subtrahend (m : Byte) (s : State) : Byte := BitVec.ofNat 8 (m.toNat + (1 - bitNat (flag .carry s)))

/-- `SubOp(m)` (R176). It never reads P.D. -/
def subOp (m : Byte) (s : State) : State :=
  match s.profile with
  | .source =>
    let sub := subtrahend m s
    loadA (s.a - sub) (setOverflowSub s.a sub (setCarryFlag s.a sub s))
  | .nmos => addOpNmos (m ^^^ 0xFF#8) s

/-- SBC `imm`, opcode E9 (R177). -/
def execSbcImm (ii : Byte) (s : State) : Result := advance (.sbcImm ii) (subOp ii s)

/-- SBC `zp`, opcode E5 (R177). -/
def execSbcZp (zz : Byte) (s : State) : Result := advance (.sbcZp zz) (subOp (operandValue (.zp zz) s) s)

/-- SBC `zpx`, opcode F5 (R177). -/
def execSbcZpx (zz : Byte) (s : State) : Result :=
  advance (.sbcZpx zz) (subOp (operandValue (.zpx zz) s) s)

/-- SBC `abs`, opcode ED (R177). -/
def execSbcAbs (hhll : Word) (s : State) : Result :=
  advance (.sbcAbs hhll) (subOp (operandValue (.abs hhll) s) s)

/-- SBC `absx`, opcode FD (R177). -/
def execSbcAbsx (hhll : Word) (s : State) : Result :=
  advance (.sbcAbsx hhll) (subOp (operandValue (.absx hhll) s) s)

/-- SBC `absy`, opcode F9 (R177). -/
def execSbcAbsy (hhll : Word) (s : State) : Result :=
  advance (.sbcAbsy hhll) (subOp (operandValue (.absy hhll) s) s)

/-- SBC `indx`, opcode E1 (R177). -/
def execSbcIndx (zz : Byte) (s : State) : Result :=
  advance (.sbcIndx zz) (subOp (operandValue (.indx zz) s) s)

/-- SBC `indy`, opcode F1 (R177). -/
def execSbcIndy (zz : Byte) (s : State) : Result :=
  advance (.sbcIndy zz) (subOp (operandValue (.indy zz) s) s)

/-- `m <- u8(M + 1); MemWrite(EA, 1, m); SubOp(m)` (R178). -/
def iscMem (o : MemOperand) (s : State) : State :=
  let m := operandValue o s + 1#8
  subOp m (storeOperand o m s)

/-- ISC `zp`, opcode E7 (R178). -/
def execIscZp (zz : Byte) (s : State) : Result := advance (.iscZp zz) (iscMem (.zp zz) s)

/-- ISC `zpx`, opcode F7 (R178). -/
def execIscZpx (zz : Byte) (s : State) : Result := advance (.iscZpx zz) (iscMem (.zpx zz) s)

/-- ISC `abs`, opcode EF (R178). -/
def execIscAbs (hhll : Word) (s : State) : Result := advance (.iscAbs hhll) (iscMem (.abs hhll) s)

/-- ISC `absx`, opcode FF (R178). -/
def execIscAbsx (hhll : Word) (s : State) : Result := advance (.iscAbsx hhll) (iscMem (.absx hhll) s)

/-- ISC `absy`, opcode FB (R178). -/
def execIscAbsy (hhll : Word) (s : State) : Result := advance (.iscAbsy hhll) (iscMem (.absy hhll) s)

/-- ISC `indx`, opcode E3 (R178). -/
def execIscIndx (zz : Byte) (s : State) : Result := advance (.iscIndx zz) (iscMem (.indx zz) s)

/-- ISC `indy`, opcode F3 (R178). -/
def execIscIndy (zz : Byte) (s : State) : Result := advance (.iscIndy zz) (iscMem (.indy zz) s)

end Sys2Proof.Machine
end

