-- ==== Sys2Proof/Machine/ShiftRotate.lean ====
section
/-! DEFINITION. Shift and rotate instructions (45_shift_rotate.md): the effect of each mnemonic once, then one meaning per opcode row. -/

namespace Sys2Proof.Machine

/-- `P.C <- c; SetZN(r)`: the flags of every shift, `c` the bit shifted out and `r` the result. -/
def shiftFlags (c : Bool) (r : Byte) (s : State) : State := setZN r (setFlag .carry c s)

/-- `r <- u8(v << 1)` (R190). -/
def aslOf (v : Byte) : Byte := v <<< 1

/-- ASL of the accumulator (R190). -/
def aslAcc (s : State) : State := (shiftFlags (getBit s.a 7) (aslOf s.a) s).setA (aslOf s.a)

/-- ASL of a byte of memory (R190). -/
def aslMem (o : MemOperand) (s : State) : State :=
  let v := operandValue o s
  storeOperand o (aslOf v) (shiftFlags (getBit v 7) (aslOf v) s)

/-- ASL `acc`, opcode 0A (R190). -/
def execAslAcc (s : State) : Result := advance .aslAcc (aslAcc s)

/-- ASL `zp`, opcode 06 (R190). -/
def execAslZp (zz : Byte) (s : State) : Result := advance (.aslZp zz) (aslMem (.zp zz) s)

/-- ASL `zpx`, opcode 16 (R190). -/
def execAslZpx (zz : Byte) (s : State) : Result := advance (.aslZpx zz) (aslMem (.zpx zz) s)

/-- ASL `abs`, opcode 0E (R190). -/
def execAslAbs (hhll : Word) (s : State) : Result := advance (.aslAbs hhll) (aslMem (.abs hhll) s)

/-- ASL `absx`, opcode 1E (R190). -/
def execAslAbsx (hhll : Word) (s : State) : Result := advance (.aslAbsx hhll) (aslMem (.absx hhll) s)

/-- `r <- v >> 1` (R191). -/
def lsrOf (v : Byte) : Byte := v >>> 1

/-- LSR of the accumulator (R191). -/
def lsrAcc (s : State) : State := (shiftFlags (getBit s.a 0) (lsrOf s.a) s).setA (lsrOf s.a)

/-- LSR of a byte of memory (R191). -/
def lsrMem (o : MemOperand) (s : State) : State :=
  let v := operandValue o s
  storeOperand o (lsrOf v) (shiftFlags (getBit v 0) (lsrOf v) s)

/-- LSR `acc`, opcode 4A (R191). -/
def execLsrAcc (s : State) : Result := advance .lsrAcc (lsrAcc s)

/-- LSR `zp`, opcode 46 (R191). -/
def execLsrZp (zz : Byte) (s : State) : Result := advance (.lsrZp zz) (lsrMem (.zp zz) s)

/-- LSR `zpx`, opcode 56 (R191). -/
def execLsrZpx (zz : Byte) (s : State) : Result := advance (.lsrZpx zz) (lsrMem (.zpx zz) s)

/-- LSR `abs`, opcode 4E (R191). -/
def execLsrAbs (hhll : Word) (s : State) : Result := advance (.lsrAbs hhll) (lsrMem (.abs hhll) s)

/-- LSR `absx`, opcode 5E (R191). -/
def execLsrAbsx (hhll : Word) (s : State) : Result := advance (.lsrAbsx hhll) (lsrMem (.absx hhll) s)

/-- `r <- u8((v << 1) | c)`, `c` the old carry (R192). -/
def rolOf (v : Byte) (c : Bool) : Byte := (v <<< 1) ||| BitVec.ofNat 8 (bitNat c)

/-- ROL of the accumulator (R192). -/
def rolAcc (s : State) : State :=
  let r := rolOf s.a (flag .carry s)
  (shiftFlags (getBit s.a 7) r s).setA r

/-- ROL of a byte of memory (R192). -/
def rolMem (o : MemOperand) (s : State) : State :=
  let v := operandValue o s
  let r := rolOf v (flag .carry s)
  storeOperand o r (shiftFlags (getBit v 7) r s)

/-- ROL `acc`, opcode 2A (R192). -/
def execRolAcc (s : State) : Result := advance .rolAcc (rolAcc s)

/-- ROL `zp`, opcode 26 (R192). -/
def execRolZp (zz : Byte) (s : State) : Result := advance (.rolZp zz) (rolMem (.zp zz) s)

/-- ROL `zpx`, opcode 36 (R192). -/
def execRolZpx (zz : Byte) (s : State) : Result := advance (.rolZpx zz) (rolMem (.zpx zz) s)

/-- ROL `abs`, opcode 2E (R192). -/
def execRolAbs (hhll : Word) (s : State) : Result := advance (.rolAbs hhll) (rolMem (.abs hhll) s)

/-- ROL `absx`, opcode 3E (R192). -/
def execRolAbsx (hhll : Word) (s : State) : Result := advance (.rolAbsx hhll) (rolMem (.absx hhll) s)

/-- `r <- (v >> 1) | (c << 7)`, `c` the old carry (R193). -/
def rorOf (v : Byte) (c : Bool) : Byte := (v >>> 1) ||| (BitVec.ofNat 8 (bitNat c) <<< 7)

/-- ROR of the accumulator (R193). -/
def rorAcc (s : State) : State :=
  let r := rorOf s.a (flag .carry s)
  (shiftFlags (getBit s.a 0) r s).setA r

/-- ROR of a byte of memory (R193). -/
def rorMem (o : MemOperand) (s : State) : State :=
  let v := operandValue o s
  let r := rorOf v (flag .carry s)
  storeOperand o r (shiftFlags (getBit v 0) r s)

/-- ROR `acc`, opcode 6A (R193). -/
def execRorAcc (s : State) : Result := advance .rorAcc (rorAcc s)

/-- ROR `zp`, opcode 66 (R193). -/
def execRorZp (zz : Byte) (s : State) : Result := advance (.rorZp zz) (rorMem (.zp zz) s)

/-- ROR `zpx`, opcode 76 (R193). -/
def execRorZpx (zz : Byte) (s : State) : Result := advance (.rorZpx zz) (rorMem (.zpx zz) s)

/-- ROR `abs`, opcode 6E (R193). -/
def execRorAbs (hhll : Word) (s : State) : Result := advance (.rorAbs hhll) (rorMem (.abs hhll) s)

/-- ROR `absx`, opcode 7E (R193). -/
def execRorAbsx (hhll : Word) (s : State) : Result := advance (.rorAbsx hhll) (rorMem (.absx hhll) s)

end Sys2Proof.Machine
end

