-- ==== Sys2Proof/Machine/TransferStack.lean ====
section
/-! DEFINITION. Register transfer and stack instructions (42_transfer_stack.md): the effect of each mnemonic once, then one meaning per opcode row. -/

namespace Sys2Proof.Machine

/-- TAX `imp`, opcode AA (R150). -/
def execTax (s : State) : Result := advance .tax (loadX s.a s)

/-- TAY `imp`, opcode A8 (R151). -/
def execTay (s : State) : Result := advance .tay (loadY s.a s)

/-- TSX `imp`, opcode BA (R152). -/
def execTsx (s : State) : Result := advance .tsx (loadX s.sp s)

/-- The register TXA copies: SP in the SOURCE profile, X in the NMOS profile (R153). -/
def txaSource (s : State) : Byte :=
  match s.profile with
  | .source => s.sp
  | .nmos => s.x

/-- TXA `imp`, opcode 8A (R153). -/
def execTxa (s : State) : Result := advance .txa (loadA (txaSource s) s)

/-- TXS `imp`, opcode 9A (R154). -/
def execTxs (s : State) : Result := advance .txs (s.setSp s.x)

/-- TYA `imp`, opcode 98 (R155). -/
def execTya (s : State) : Result := advance .tya (loadA s.y s)

/-- PHA `imp`, opcode 48 (R156). -/
def execPha (s : State) : Result := advance .pha (push8 s.a s)

/-- PHP `imp`, opcode 08 (R157). -/
def execPhp (s : State) : Result := advance .php (push8 (pushedStatus s.profile s.p) s)

/-- PLA `imp`, opcode 68 (R158). -/
def execPla (s : State) : Result := advance .pla (loadA (pulled8 s) (pull8 s))

/-- PLP `imp`, opcode 28 (R159). -/
def execPlp (s : State) : Result := advance .plp (pullStatus s)

end Sys2Proof.Machine
end

