-- ==== Sys2Proof/Machine/Dispatch.lean ====
section
/-! DEFINITION. One arm per constructor of `Instr`, each a call of its meaning (40_execution_core.md R101, R102). -/

namespace Sys2Proof.Machine

def exec (i : Instr) (s : State) : Host.Outcome State Fault Refusal :=
  match i with
  -- Load and store instructions (41_load_store.md)
  | .ldaImm ii => Sys2Proof.Machine.execLdaImm ii s
  | .ldaZp zz => Sys2Proof.Machine.execLdaZp zz s
  | .ldaZpx zz => Sys2Proof.Machine.execLdaZpx zz s
  | .ldaAbs hhll => Sys2Proof.Machine.execLdaAbs hhll s
  | .ldaAbsx hhll => Sys2Proof.Machine.execLdaAbsx hhll s
  | .ldaAbsy hhll => Sys2Proof.Machine.execLdaAbsy hhll s
  | .ldaIndx zz => Sys2Proof.Machine.execLdaIndx zz s
  | .ldaIndy zz => Sys2Proof.Machine.execLdaIndy zz s
  | .ldxImm ii => Sys2Proof.Machine.execLdxImm ii s
  | .ldxZp zz => Sys2Proof.Machine.execLdxZp zz s
  | .ldxZpy zz => Sys2Proof.Machine.execLdxZpy zz s
  | .ldxAbs hhll => Sys2Proof.Machine.execLdxAbs hhll s
  | .ldxAbsy hhll => Sys2Proof.Machine.execLdxAbsy hhll s
  | .ldyImm ii => Sys2Proof.Machine.execLdyImm ii s
  | .ldyZp zz => Sys2Proof.Machine.execLdyZp zz s
  | .ldyZpx zz => Sys2Proof.Machine.execLdyZpx zz s
  | .ldyAbs hhll => Sys2Proof.Machine.execLdyAbs hhll s
  | .ldyAbsx hhll => Sys2Proof.Machine.execLdyAbsx hhll s
  | .staZp zz => Sys2Proof.Machine.execStaZp zz s
  | .staZpx zz => Sys2Proof.Machine.execStaZpx zz s
  | .staAbs hhll => Sys2Proof.Machine.execStaAbs hhll s
  | .staAbsx hhll => Sys2Proof.Machine.execStaAbsx hhll s
  | .staAbsy hhll => Sys2Proof.Machine.execStaAbsy hhll s
  | .staIndx zz => Sys2Proof.Machine.execStaIndx zz s
  | .staIndy zz => Sys2Proof.Machine.execStaIndy zz s
  | .stxZp zz => Sys2Proof.Machine.execStxZp zz s
  | .stxZpy zz => Sys2Proof.Machine.execStxZpy zz s
  | .stxAbs hhll => Sys2Proof.Machine.execStxAbs hhll s
  | .styZp zz => Sys2Proof.Machine.execStyZp zz s
  | .styZpx zz => Sys2Proof.Machine.execStyZpx zz s
  | .styAbs hhll => Sys2Proof.Machine.execStyAbs hhll s
  -- Register transfer and stack instructions (42_transfer_stack.md)
  | .tax => Sys2Proof.Machine.execTax s
  | .tay => Sys2Proof.Machine.execTay s
  | .tsx => Sys2Proof.Machine.execTsx s
  | .txa => Sys2Proof.Machine.execTxa s
  | .txs => Sys2Proof.Machine.execTxs s
  | .tya => Sys2Proof.Machine.execTya s
  | .pha => Sys2Proof.Machine.execPha s
  | .php => Sys2Proof.Machine.execPhp s
  | .pla => Sys2Proof.Machine.execPla s
  | .plp => Sys2Proof.Machine.execPlp s
  -- Logical and arithmetic instructions (43_logical_arith.md)
  | .andImm ii => Sys2Proof.Machine.execAndImm ii s
  | .andZp zz => Sys2Proof.Machine.execAndZp zz s
  | .andZpx zz => Sys2Proof.Machine.execAndZpx zz s
  | .andAbs hhll => Sys2Proof.Machine.execAndAbs hhll s
  | .andAbsx hhll => Sys2Proof.Machine.execAndAbsx hhll s
  | .andAbsy hhll => Sys2Proof.Machine.execAndAbsy hhll s
  | .andIndx zz => Sys2Proof.Machine.execAndIndx zz s
  | .andIndy zz => Sys2Proof.Machine.execAndIndy zz s
  | .oraImm ii => Sys2Proof.Machine.execOraImm ii s
  | .oraZp zz => Sys2Proof.Machine.execOraZp zz s
  | .oraZpx zz => Sys2Proof.Machine.execOraZpx zz s
  | .oraAbs hhll => Sys2Proof.Machine.execOraAbs hhll s
  | .oraAbsx hhll => Sys2Proof.Machine.execOraAbsx hhll s
  | .oraAbsy hhll => Sys2Proof.Machine.execOraAbsy hhll s
  | .oraIndx zz => Sys2Proof.Machine.execOraIndx zz s
  | .oraIndy zz => Sys2Proof.Machine.execOraIndy zz s
  | .eorImm ii => Sys2Proof.Machine.execEorImm ii s
  | .eorZp zz => Sys2Proof.Machine.execEorZp zz s
  | .eorZpx zz => Sys2Proof.Machine.execEorZpx zz s
  | .eorAbs hhll => Sys2Proof.Machine.execEorAbs hhll s
  | .eorAbsx hhll => Sys2Proof.Machine.execEorAbsx hhll s
  | .eorAbsy hhll => Sys2Proof.Machine.execEorAbsy hhll s
  | .eorIndx zz => Sys2Proof.Machine.execEorIndx zz s
  | .eorIndy zz => Sys2Proof.Machine.execEorIndy zz s
  | .bitZp zz => Sys2Proof.Machine.execBitZp zz s
  | .bitAbs hhll => Sys2Proof.Machine.execBitAbs hhll s
  | .adcImm ii => Sys2Proof.Machine.execAdcImm ii s
  | .adcZp zz => Sys2Proof.Machine.execAdcZp zz s
  | .adcZpx zz => Sys2Proof.Machine.execAdcZpx zz s
  | .adcAbs hhll => Sys2Proof.Machine.execAdcAbs hhll s
  | .adcAbsx hhll => Sys2Proof.Machine.execAdcAbsx hhll s
  | .adcAbsy hhll => Sys2Proof.Machine.execAdcAbsy hhll s
  | .adcIndx zz => Sys2Proof.Machine.execAdcIndx zz s
  | .adcIndy zz => Sys2Proof.Machine.execAdcIndy zz s
  | .sbcImm ii => Sys2Proof.Machine.execSbcImm ii s
  | .sbcZp zz => Sys2Proof.Machine.execSbcZp zz s
  | .sbcZpx zz => Sys2Proof.Machine.execSbcZpx zz s
  | .sbcAbs hhll => Sys2Proof.Machine.execSbcAbs hhll s
  | .sbcAbsx hhll => Sys2Proof.Machine.execSbcAbsx hhll s
  | .sbcAbsy hhll => Sys2Proof.Machine.execSbcAbsy hhll s
  | .sbcIndx zz => Sys2Proof.Machine.execSbcIndx zz s
  | .sbcIndy zz => Sys2Proof.Machine.execSbcIndy zz s
  | .iscZp zz => Sys2Proof.Machine.execIscZp zz s
  | .iscZpx zz => Sys2Proof.Machine.execIscZpx zz s
  | .iscAbs hhll => Sys2Proof.Machine.execIscAbs hhll s
  | .iscAbsx hhll => Sys2Proof.Machine.execIscAbsx hhll s
  | .iscAbsy hhll => Sys2Proof.Machine.execIscAbsy hhll s
  | .iscIndx zz => Sys2Proof.Machine.execIscIndx zz s
  | .iscIndy zz => Sys2Proof.Machine.execIscIndy zz s
  -- Compare instructions (44_compare.md)
  | .cmpImm ii => Sys2Proof.Machine.execCmpImm ii s
  | .cmpZp zz => Sys2Proof.Machine.execCmpZp zz s
  | .cmpZpx zz => Sys2Proof.Machine.execCmpZpx zz s
  | .cmpAbs hhll => Sys2Proof.Machine.execCmpAbs hhll s
  | .cmpAbsx hhll => Sys2Proof.Machine.execCmpAbsx hhll s
  | .cmpAbsy hhll => Sys2Proof.Machine.execCmpAbsy hhll s
  | .cmpIndx zz => Sys2Proof.Machine.execCmpIndx zz s
  | .cmpIndy zz => Sys2Proof.Machine.execCmpIndy zz s
  | .cpxImm ii => Sys2Proof.Machine.execCpxImm ii s
  | .cpxZp zz => Sys2Proof.Machine.execCpxZp zz s
  | .cpxAbs hhll => Sys2Proof.Machine.execCpxAbs hhll s
  | .cpyImm ii => Sys2Proof.Machine.execCpyImm ii s
  | .cpyZp zz => Sys2Proof.Machine.execCpyZp zz s
  | .cpyAbs hhll => Sys2Proof.Machine.execCpyAbs hhll s
  -- Shift and rotate instructions (45_shift_rotate.md)
  | .aslAcc => Sys2Proof.Machine.execAslAcc s
  | .aslZp zz => Sys2Proof.Machine.execAslZp zz s
  | .aslZpx zz => Sys2Proof.Machine.execAslZpx zz s
  | .aslAbs hhll => Sys2Proof.Machine.execAslAbs hhll s
  | .aslAbsx hhll => Sys2Proof.Machine.execAslAbsx hhll s
  | .lsrAcc => Sys2Proof.Machine.execLsrAcc s
  | .lsrZp zz => Sys2Proof.Machine.execLsrZp zz s
  | .lsrZpx zz => Sys2Proof.Machine.execLsrZpx zz s
  | .lsrAbs hhll => Sys2Proof.Machine.execLsrAbs hhll s
  | .lsrAbsx hhll => Sys2Proof.Machine.execLsrAbsx hhll s
  | .rolAcc => Sys2Proof.Machine.execRolAcc s
  | .rolZp zz => Sys2Proof.Machine.execRolZp zz s
  | .rolZpx zz => Sys2Proof.Machine.execRolZpx zz s
  | .rolAbs hhll => Sys2Proof.Machine.execRolAbs hhll s
  | .rolAbsx hhll => Sys2Proof.Machine.execRolAbsx hhll s
  | .rorAcc => Sys2Proof.Machine.execRorAcc s
  | .rorZp zz => Sys2Proof.Machine.execRorZp zz s
  | .rorZpx zz => Sys2Proof.Machine.execRorZpx zz s
  | .rorAbs hhll => Sys2Proof.Machine.execRorAbs hhll s
  | .rorAbsx hhll => Sys2Proof.Machine.execRorAbsx hhll s
  -- Increment and decrement instructions (46_inc_dec.md)
  | .incZp zz => Sys2Proof.Machine.execIncZp zz s
  | .incZpx zz => Sys2Proof.Machine.execIncZpx zz s
  | .incAbs hhll => Sys2Proof.Machine.execIncAbs hhll s
  | .incAbsx hhll => Sys2Proof.Machine.execIncAbsx hhll s
  | .decZp zz => Sys2Proof.Machine.execDecZp zz s
  | .decZpx zz => Sys2Proof.Machine.execDecZpx zz s
  | .decAbs hhll => Sys2Proof.Machine.execDecAbs hhll s
  | .decAbsx hhll => Sys2Proof.Machine.execDecAbsx hhll s
  | .inx => Sys2Proof.Machine.execInx s
  | .iny => Sys2Proof.Machine.execIny s
  | .dex => Sys2Proof.Machine.execDex s
  | .dey => Sys2Proof.Machine.execDey s
  -- Branch instructions (47_branch.md)
  | .bcc oo => Sys2Proof.Machine.execBcc oo s
  | .bcs oo => Sys2Proof.Machine.execBcs oo s
  | .beq oo => Sys2Proof.Machine.execBeq oo s
  | .bmi oo => Sys2Proof.Machine.execBmi oo s
  | .bne oo => Sys2Proof.Machine.execBne oo s
  | .bpl oo => Sys2Proof.Machine.execBpl oo s
  | .bvc oo => Sys2Proof.Machine.execBvc oo s
  | .bvs oo => Sys2Proof.Machine.execBvs oo s
  -- Jump, subroutine and return instructions (48_jump_subroutine.md)
  | .jmpAbs hhll => Sys2Proof.Machine.execJmpAbs hhll s
  | .jmpInd hhll => Sys2Proof.Machine.execJmpInd hhll s
  | .jsr hhll => Sys2Proof.Machine.execJsr hhll s
  | .rts => Sys2Proof.Machine.execRts s
  | .rti => Sys2Proof.Machine.execRti s
  -- Flag-control, break and no-op instructions (49_flag_break_nop.md)
  | .clc => Sys2Proof.Machine.execClc s
  | .cld => Sys2Proof.Machine.execCld s
  | .cli => Sys2Proof.Machine.execCli s
  | .clv => Sys2Proof.Machine.execClv s
  | .sec => Sys2Proof.Machine.execSec s
  | .sed => Sys2Proof.Machine.execSed s
  | .sei => Sys2Proof.Machine.execSei s
  | .brk => Sys2Proof.Machine.execBrk s
  | .nop => Sys2Proof.Machine.execNop s

end Sys2Proof.Machine
end

