-- ==== Sys2Proof/Machine/Step.lean ====
section
/-! DEFINITION. One fetch-execute step (40_execution_core.md R100, R101), and the placing of an
instruction where the next step fetches. -/

namespace Sys2Proof.Machine

/-- One step (R100, R101). Running: the bytes at PC are decoded and the instruction runs; an opcode
without a handler ends the run in the Faulted state (60_exceptions.md R301), which is a next state that
holds the record (log entry 5). Halted and Faulted: no step is enabled (R100), a step on the first is
refused and on the second is the fault (log entries 5 and 6). -/
def step (s : State) : Host.Outcome State Fault Refusal :=
  match s.run with
  | .running =>
    match decode (fetchBytes s) with
    | .ok (i, _) => exec i s
    | .error _ => .next (raiseUnknownOpcode (loadByte s.pc s) s.pc s)
  | .halted => .refused .runHalted
  | .faulted op addr => .fault (.unknownOpcode op addr)

/-- The bytes of an instruction stored at PC, PC + 1 and PC + 2, and the run Running, so that the very
next step fetches and runs it (log entry 7). -/
def State.withFetchWord (s : State) (nbits w : Nat) : State :=
  (storeBytes s.pc (tableBytes nbits w) s).setRun .running

end Sys2Proof.Machine
end

