-- ==== Sys2Proof/Machine/Assembly.lean ====
section
/-! DEFINITION. The assembler syntax (30_encoding.md R80 to R82): how an instruction is written, and which
instruction a written line is. A label stands for its address (log entry 17). There is no pseudo-instruction
(R81). -/

namespace Sys2Proof.Machine

/-- An operand as it is written, by its form and its hexadecimal digits (R71, R80, R82). -/
inductive AsmOperand where
  /-- Nothing after the mnemonic. -/
  | none
  /-- `A` -/
  | accumulator
  /-- `#$ii` -/
  | immediate (ii : Byte)
  /-- `$zz`, two digits -/
  | short (zz : Byte)
  /-- `$zz,X` -/
  | shortX (zz : Byte)
  /-- `$zz,Y` -/
  | shortY (zz : Byte)
  /-- `$hhll`, four digits, also the target address of a branch -/
  | long (hhll : Word)
  /-- `$hhll,X` -/
  | longX (hhll : Word)
  /-- `$hhll,Y` -/
  | longY (hhll : Word)
  /-- `($zz,X)` -/
  | indirectX (zz : Byte)
  /-- `($zz),Y` -/
  | indirectY (zz : Byte)
  /-- `($hhll)` -/
  | indirect (hhll : Word)
  deriving DecidableEq, Repr

/-! ## From a written line to an instruction -/

/-- The mnemonic and mode an opcode byte has a handler for (R74, R75). -/
def rowOfOpcode (op : Byte) : Option Row :=
  match entryOf op with
  | .none => Option.none
  | .plain i => some (rowOf i)
  | .byte f => some (rowOf (f 0x00#8))
  | .word f => some (rowOf (f 0x0000#16))

/-- All opcode bytes. -/
def allOpcodes : List Byte := (List.range 256).map fun n => BitVec.ofNat 8 n

/-- Whether an opcode byte is this mnemonic in this mode. -/
def isOpcodeFor (m : Mnemonic) (mode : Mode) (op : Byte) : Bool :=
  match rowOfOpcode op with
  | some r => r.mnemonic == m && r.mode == mode
  | Option.none => false

/-- The instruction with this mnemonic and mode, its operand bytes from `w`; none where the mnemonic lacks
the mode. -/
def build (m : Mnemonic) (mode : Mode) (w : Word) : Option Instr :=
  match allOpcodes.find? (isOpcodeFor m mode) with
  | Option.none => Option.none
  | some op =>
    match decode [op, loByte w, hiByte w] with
    | .ok (i, _) => some i
    | .error _ => Option.none

/-- A branch at `site` to a written target address; none where the assembler must refuse it (R80). -/
def buildBranch (site : Word) (m : Mnemonic) (target : Word) : Option Instr :=
  match branchOffset site target with
  | some oo => build m .rel (wordOf 0x00#8 oo)
  | Option.none => Option.none

/-- The instruction a line at address `site` is (R80, R82): the operand form chooses the mode, two digits
choosing the zero-page form where one exists and else the absolute one. -/
def assemble (site : Word) (m : Mnemonic) (o : AsmOperand) : Option Instr :=
  match o with
  | .none => (build m .imp 0x0000#16).or (build m .acc 0x0000#16)
  | .accumulator => build m .acc 0x0000#16
  | .immediate ii => build m .imm (wordOf 0x00#8 ii)
  | .short zz =>
    ((build m .zp (wordOf 0x00#8 zz)).or (build m .abs (wordOf 0x00#8 zz))).or
      (buildBranch site m (wordOf 0x00#8 zz))
  | .shortX zz => (build m .zpx (wordOf 0x00#8 zz)).or (build m .absx (wordOf 0x00#8 zz))
  | .shortY zz => (build m .zpy (wordOf 0x00#8 zz)).or (build m .absy (wordOf 0x00#8 zz))
  | .long hhll => (build m .abs hhll).or (buildBranch site m hhll)
  | .longX hhll => build m .absx hhll
  | .longY hhll => build m .absy hhll
  | .indirectX zz => build m .indx (wordOf 0x00#8 zz)
  | .indirectY zz => build m .indy (wordOf 0x00#8 zz)
  | .indirect hhll => build m .ind hhll

/-! ## From an instruction to a written line -/

/-- How the operand of an instruction at address `site` is written (R71). -/
def operandWritten (site : Word) (i : Instr) : AsmOperand :=
  let bytes := encode i
  let short := bytes.getD 1 0x00#8
  let long := wordOf (bytes.getD 2 0x00#8) short
  match (rowOf i).mode with
  | .imp => .none
  | .acc => .accumulator
  | .imm => .immediate short
  | .zp => .short short
  | .zpx => .shortX short
  | .zpy => .shortY short
  | .abs => .long long
  | .absx => .longX long
  | .absy => .longY long
  | .indx => .indirectX short
  | .indy => .indirectY short
  | .ind => .indirect long
  | .rel => .long (site + 2#16 + short.signExtend 16)

/-- A mnemonic's three letters (R75, R80). -/
def Mnemonic.text : Mnemonic → List Char
  | .lda => ['L', 'D', 'A']
  | .ldx => ['L', 'D', 'X']
  | .ldy => ['L', 'D', 'Y']
  | .sta => ['S', 'T', 'A']
  | .stx => ['S', 'T', 'X']
  | .sty => ['S', 'T', 'Y']
  | .tax => ['T', 'A', 'X']
  | .tay => ['T', 'A', 'Y']
  | .tsx => ['T', 'S', 'X']
  | .txa => ['T', 'X', 'A']
  | .txs => ['T', 'X', 'S']
  | .tya => ['T', 'Y', 'A']
  | .pha => ['P', 'H', 'A']
  | .php => ['P', 'H', 'P']
  | .pla => ['P', 'L', 'A']
  | .plp => ['P', 'L', 'P']
  | .and => ['A', 'N', 'D']
  | .ora => ['O', 'R', 'A']
  | .eor => ['E', 'O', 'R']
  | .bit => ['B', 'I', 'T']
  | .adc => ['A', 'D', 'C']
  | .sbc => ['S', 'B', 'C']
  | .isc => ['I', 'S', 'C']
  | .cmp => ['C', 'M', 'P']
  | .cpx => ['C', 'P', 'X']
  | .cpy => ['C', 'P', 'Y']
  | .asl => ['A', 'S', 'L']
  | .lsr => ['L', 'S', 'R']
  | .rol => ['R', 'O', 'L']
  | .ror => ['R', 'O', 'R']
  | .inc => ['I', 'N', 'C']
  | .dec => ['D', 'E', 'C']
  | .inx => ['I', 'N', 'X']
  | .iny => ['I', 'N', 'Y']
  | .dex => ['D', 'E', 'X']
  | .dey => ['D', 'E', 'Y']
  | .bcc => ['B', 'C', 'C']
  | .bcs => ['B', 'C', 'S']
  | .beq => ['B', 'E', 'Q']
  | .bmi => ['B', 'M', 'I']
  | .bne => ['B', 'N', 'E']
  | .bpl => ['B', 'P', 'L']
  | .bvc => ['B', 'V', 'C']
  | .bvs => ['B', 'V', 'S']
  | .jmp => ['J', 'M', 'P']
  | .jsr => ['J', 'S', 'R']
  | .rts => ['R', 'T', 'S']
  | .rti => ['R', 'T', 'I']
  | .clc => ['C', 'L', 'C']
  | .cld => ['C', 'L', 'D']
  | .cli => ['C', 'L', 'I']
  | .clv => ['C', 'L', 'V']
  | .sec => ['S', 'E', 'C']
  | .sed => ['S', 'E', 'D']
  | .sei => ['S', 'E', 'I']
  | .brk => ['B', 'R', 'K']
  | .nop => ['N', 'O', 'P']

/-- A hexadecimal digit (R10). -/
def hexDigit (n : Nat) : Char :=
  ['0', '1', '2', '3', '4', '5', '6', '7', '8', '9', 'A', 'B', 'C', 'D', 'E', 'F'].getD n '0'

/-- `$` and two digits. -/
def hexByte (b : Byte) : List Char := ['$', hexDigit (b.toNat / 16), hexDigit (b.toNat % 16)]

/-- `$` and four digits. -/
def hexWord (w : Word) : List Char := hexByte (hiByte w) ++ (hexByte (loByte w)).drop 1

/-- The text of an operand (R71, R80). -/
def AsmOperand.text : AsmOperand → List Char
  | .none => []
  | .accumulator => ['A']
  | .immediate ii => '#' :: hexByte ii
  | .short zz => hexByte zz
  | .shortX zz => hexByte zz ++ [',', 'X']
  | .shortY zz => hexByte zz ++ [',', 'Y']
  | .long hhll => hexWord hhll
  | .longX hhll => hexWord hhll ++ [',', 'X']
  | .longY hhll => hexWord hhll ++ [',', 'Y']
  | .indirectX zz => '(' :: hexByte zz ++ [',', 'X', ')']
  | .indirectY zz => '(' :: hexByte zz ++ [')', ',', 'Y']
  | .indirect hhll => '(' :: hexWord hhll ++ [')']

/-- The text of an instruction at address `site` (R71, R80): mnemonic, and its operand after a space. -/
def assemblyText (site : Word) (i : Instr) : List Char :=
  let operand := (operandWritten site i).text
  Mnemonic.text (rowOf i).mnemonic ++ (if operand.isEmpty then [] else ' ' :: operand)

/-! ## From text to a written line -/

/-- The value of a hexadecimal digit. -/
def hexValue (c : Char) : Option Nat := (List.range 16).find? fun n => hexDigit n == c

/-- The number a list of hexadecimal digits writes, after `acc`. -/
def hexValues : Nat → List Char → Option Nat
  | acc, [] => some acc
  | acc, c :: rest =>
    match hexValue c with
    | some d => hexValues (16 * acc + d) rest
    | Option.none => Option.none

/-- The number between `before` and `behind`, written with `digits` hexadecimal digits. -/
def readForm (before behind : List Char) (digits : Nat) (text : List Char) : Option Nat :=
  if text.take before.length == before && text.drop (before.length + digits) == behind &&
      text.length == before.length + digits + behind.length then
    hexValues 0 ((text.drop before.length).take digits)
  else Option.none

/-- An operand form with two digits. -/
def readShort (before behind : List Char) (form : Byte → AsmOperand) (text : List Char) : Option AsmOperand :=
  (readForm before behind 2 text).map fun n => form (BitVec.ofNat 8 n)

/-- An operand form with four digits. -/
def readLong (before behind : List Char) (form : Word → AsmOperand) (text : List Char) : Option AsmOperand :=
  (readForm before behind 4 text).map fun n => form (BitVec.ofNat 16 n)

/-- The text of an operand, read (R71, R80). -/
def readOperand (text : List Char) : Option AsmOperand :=
  if text == [] then some .none
  else if text == ['A'] then some .accumulator
  else
    [readShort ['#', '$'] [] .immediate text,
     readShort ['$'] [] .short text,
     readShort ['$'] [',', 'X'] .shortX text,
     readShort ['$'] [',', 'Y'] .shortY text,
     readLong ['$'] [] .long text,
     readLong ['$'] [',', 'X'] .longX text,
     readLong ['$'] [',', 'Y'] .longY text,
     readShort ['(', '$'] [',', 'X', ')'] .indirectX text,
     readShort ['(', '$'] [')', ',', 'Y'] .indirectY text,
     readLong ['(', '$'] [')'] .indirect text].findSome? id

/-- The 57 mnemonics (R75). -/
def allMnemonics : List Mnemonic :=
  [.lda, .ldx, .ldy, .sta, .stx, .sty, .tax, .tay, .tsx, .txa, .txs, .tya, .pha, .php, .pla,
   .plp, .and, .ora, .eor, .bit, .adc, .sbc, .isc, .cmp, .cpx, .cpy, .asl, .lsr, .rol, .ror,
   .inc, .dec, .inx, .iny, .dex, .dey, .bcc, .bcs, .beq, .bmi, .bne, .bpl, .bvc, .bvs, .jmp,
   .jsr, .rts, .rti, .clc, .cld, .cli, .clv, .sec, .sed, .sei, .brk, .nop]

/-- A line of text: three letters, and after a space the operand (R80). -/
def readLine (line : List Char) : Option (Mnemonic × AsmOperand) :=
  match allMnemonics.find? fun m => Mnemonic.text m == line.take 3 with
  | Option.none => Option.none
  | some m =>
    match line.drop 3 with
    | [] => some (m, .none)
    | ' ' :: operand => (readOperand operand).map fun o => (m, o)
    | _ :: _ => Option.none

/-- The instruction a line of text at address `site` is; none where the assembler refuses the line. -/
def assembleLine (site : Word) (line : List Char) : Option Instr :=
  match readLine line with
  | some (m, o) => assemble site m o
  | Option.none => Option.none

end Sys2Proof.Machine
end

