-- ==== Sys2Proof/Machine/Launch.lean ====
section
/-! DEFINITION. The host interface (70_reset_and_hazards.md R400 to R415): creating a state, the two
loaders at their interface, the run entry point, its loop, and the launch sequence. To observe is to read a `State` (R414); to
cancel is not to step again (R415), which is the bound of `runSteps`. -/

namespace Sys2Proof.Machine

/-- The open launch parameters (00_scope.md R9) and the profile. -/
structure Launch where
  initA : Byte
  initX : Byte
  initY : Byte
  initSp : Byte
  initMem : Memory
  profile : Profile
  deriving DecidableEq, Repr

/-- Why a loader rejects its input (R411, R412). -/
inductive LoadError where
  | outOfRange
  | badMagic
  | truncated
  | tooLarge
  deriving DecidableEq, Repr

/-- `create state` (R400 step 1), with PC and P already at the values of steps 3 and 4 (log entry 12). -/
def createState (l : Launch) : State where
  a := l.initA
  x := l.initX
  y := l.initY
  sp := l.initSp
  p := Config.launchP
  pc := Config.entryPc
  cycles := 0
  mem := l.initMem
  run := .running
  profile := l.profile

/-- The program image loader (R411). -/
def loadProgram (prog : List Byte) (base : Word) (s : State) : Except LoadError State :=
  if imageFits base prog.length then .ok ((storeBytes base prog s).setPc base)
  else .error .outOfRange

/-- The magic of a cartridge header: "NES" and 1A (R412). -/
def cartridgeMagic : List Byte := [0x4E#8, 0x45#8, 0x53#8, 0x1A#8]

/-- The length of a cartridge header (R412). -/
def headerLength : Nat := 16

/-- The unit of the PRG-ROM size field, in bytes (R412). -/
def prgUnit : Nat := 16384

/-- The PRG-ROM size field, in units (R412). -/
def prgUnits (f : List Byte) : Nat := (f.getD 4 0#8).toNat

/-- The PRG-ROM of a cartridge file, or the first check that fails: BadMagic, Truncated, TooLarge
(R412). -/
def extractPrg (f : List Byte) : Except LoadError (List Byte) :=
  if f.length < headerLength || f.take 4 != cartridgeMagic then .error .badMagic
  else if f.length < headerLength + prgUnits f * prgUnit then .error .truncated
  else if prgUnits f > 2 then .error .tooLarge
  else .ok ((f.drop headerLength).take (prgUnits f * prgUnit))

/-- Where PRG-ROM is placed (R412). -/
def prgBase : Word := 0x8000#16

/-- Where PRG-ROM of exactly 16,384 bytes is copied a second time (R412). -/
def mirrorBase : Word := 0xC000#16

/-- The cartridge reader (R412): PRG-ROM through the image loader at 8000 (log entry 11), and one of
16,384 bytes at C000 as well. -/
def loadCartridge (f : List Byte) (s : State) : Except LoadError State :=
  match extractPrg f with
  | .error e => .error e
  | .ok prg =>
    match loadProgram prg prgBase s with
    | .error e => .error e
    | .ok t => .ok (if prg.length = prgUnit then storeBytes mirrorBase prg t else t)

/-- An image, with the loader it goes through (R400 step 2). -/
inductive Image where
  | cartridge (f : List Byte)
  | program (prog : List Byte) (base : Word)
  deriving DecidableEq, Repr

/-- The image loaded by its loader (R400 step 2). -/
def loadImage (image : Image) (s : State) : Except LoadError State :=
  match image with
  | .cartridge f => loadCartridge f s
  | .program prog base => loadProgram prog base s

/-- PC and P as the run entry point sets them, after the load (R400 steps 3 and 4, R401, R402). -/
def enterRun (s : State) : State := (s.setPc Config.entryPc).setP Config.launchP

/-- The run entry point up to its first step (R413, R400 steps 2 to 4). -/
def runEntry (image : Image) (s : State) : Except LoadError State :=
  match loadImage image s with
  | .error e => .error e
  | .ok t => .ok (enterRun t)

/-- The fetch-execute loop (R413): step while Running, at most `n` steps, `n` the host's own limit
(R414, R415). -/
def runSteps : Nat → State → State
  | 0, s => s
  | n + 1, s =>
    match step s with
    | .next t => runSteps n t
    | .fault _ => s
    | .refused _ => s

/-- The operation `run` of R410 on a loaded state, for at most `n` steps (R413). -/
def runFromEntry (n : Nat) (s : State) : State := runSteps n (enterRun s)

/-- A run the program image loader alone starts, at its base, for at most `n` steps (R401, R411). -/
def runFromBase (n : Nat) (prog : List Byte) (base : Word) (s : State) : Except LoadError State :=
  match loadProgram prog base s with
  | .error e => .error e
  | .ok t => .ok (runSteps n t)

/-- The whole launch sequence (R400 steps 1 to 5), for at most `n` steps. -/
def launchRun (n : Nat) (l : Launch) (image : Image) : Except LoadError State :=
  match loadImage image (createState l) with
  | .error e => .error e
  | .ok t => .ok (runFromEntry n t)

end Sys2Proof.Machine
end

