-- ==== Sys2Proof/Safety.lean ====
section
/-! DEFINITION. What counts as a safe run: 60_exceptions.md R301 makes a Faulted state a failure of the
run, and R303 makes Halted its normal end. -/

namespace Sys2Proof.Machine

/-- The run has failed (R301). -/
def runFailed (s : State) : Bool :=
  match s.run with
  | .faulted _ _ => true
  | .running => false
  | .halted => false

/-- The run has ended normally (R303). -/
def runEnded (s : State) : Bool := s.run == .halted

/-- No failure within `n` steps. -/
def safeFor (n : Nat) (s : State) : Bool := !runFailed (runSteps n s)

end Sys2Proof.Machine
end

