-- ==== Sys2Proof/Certificates/Slice0/Obligations.lean ====
section
/-! DEFINITION. The statements about the model, for the provers. The rules they formalise are named at each
and in OBLIGATIONS.json. The opcode bytes and base costs they spell out are those of 30_encoding.md R74, R75
and R77, most of which the spec marks `[from general knowledge, not in source]`; no statement cites a rule
for them but O1, which is `derived`. -/

namespace Sys2Proof.Claims

open Sys2Proof.Machine

/-! ## The words the statements use -/

/-- The registers A, X, Y and SP are these. -/
def RegsAre (t : State) (a x y sp : Byte) : Prop := t.a = a ∧ t.x = x ∧ t.y = y ∧ t.sp = sp

/-- A, X, Y and SP are unchanged. -/
def RegsKept (s t : State) : Prop := RegsAre t s.a s.x s.y s.sp

/-- The flags named have the values named, and every other bit of P its value in `s`. -/
def FlagsBecome (s t : State) (written : List (Flag × Bool)) : Prop :=
  ∀ f, flag f t = (written.lookup f).getD (flag f s)

/-- No bit of P is changed. -/
def FlagsKept (s t : State) : Prop := t.p = s.p

/-- Every byte of memory reads as before. -/
def MemoryKept (s t : State) : Prop := ∀ a, loadByte a t = loadByte a s

/-- The byte at `a` is `v`, and every other byte reads as before. -/
def ByteStored (s t : State) (a : Word) (v : Byte) : Prop :=
  loadByte a t = v ∧ ∀ b, b ≠ a → loadByte b t = loadByte b s

/-- Every byte outside these addresses reads as before. -/
def MemoryKeptOutside (s t : State) (as : List Word) : Prop := ∀ b, b ∉ as → loadByte b t = loadByte b s

/-- `Run` and the profile are unchanged. -/
def GoesOn (s t : State) : Prop := t.run = s.run ∧ t.profile = s.profile

/-- Zero and Negative from a result. -/
def znOf (v : Byte) : List (Flag × Bool) := [(.zero, decide (v = 0#8)), (.negative, v.getLsbD 7)]

/-- The bytes decode to the instruction, and it completes, in every state, in a next state that `post`
describes. -/
def Completes (bytes : List Byte) (i : Instr) (post : State → State → Prop) : Prop :=
  decode bytes = .ok (i, []) ∧ ∀ s, ∃ t, exec i s = .next t ∧ post s t

/-- The instruction completes, PC moves past its bytes, `cyc` cycles are charged, the run goes on, and
`effect` holds. -/
def Sequential (bytes : List Byte) (i : Instr) (cyc : Nat) (effect : State → State → Prop) : Prop :=
  Completes bytes i fun s t =>
    t.pc = s.pc + BitVec.ofNat 16 bytes.length ∧ t.cycles = s.cycles + cyc ∧ GoesOn s t ∧ effect s t

/-- An instruction of one byte. -/
def PlainForm (op : Byte) (i : Instr) (cyc : Nat) (effect : State → State → Prop) : Prop :=
  Sequential [op] i cyc effect

/-- An instruction with a one-byte operand, for each of its values. -/
def ByteForm (op : Byte) (con : Byte → Instr) (cyc : Nat) (effect : Byte → State → State → Prop) : Prop :=
  ∀ b, Sequential [op, b] (con b) cyc (effect b)

/-- An instruction with a 16-bit operand, low byte first, for each of its values. -/
def WordForm (op : Byte) (con : Word → Instr) (cyc : Nat) (effect : Word → State → State → Prop) : Prop :=
  ∀ w, Sequential [op, loByte w, hiByte w] (con w) cyc (effect w)

/-- The effect of an operand value, of the value the operand has in memory. -/
def reads {α : Type} (mode : α → MemOperand) (effect : Byte → State → State → Prop) (field : α) (s t : State) :
    Prop :=
  effect (operandValue (mode field) s) s t

/-- The effect at an effective address, of the operand's effective address. -/
def at_ {α : Type} (mode : α → MemOperand) (effect : Word → State → State → Prop) (field : α) (s t : State) :
    Prop :=
  effect (effectiveAddress (mode field) s) s t

/-- The carry as a number. -/
def carryNat (s : State) : Nat := if flag .carry s then 1 else 0

/-- The 98 opcode bytes with no handler, as 30_encoding.md R79 lists them. -/
def unknownOpcodes : List Byte :=
  ([0x02, 0x03, 0x04, 0x07, 0x0B, 0x0C, 0x0F, 0x12, 0x13, 0x14, 0x17, 0x1A, 0x1B, 0x1C] : List Byte) ++
  ([0x1F, 0x22, 0x23, 0x27, 0x2B, 0x2F, 0x32, 0x33, 0x34, 0x37, 0x3A, 0x3B, 0x3C, 0x3F] : List Byte) ++
  ([0x42, 0x43, 0x44, 0x47, 0x4B, 0x4F, 0x52, 0x53, 0x54, 0x57, 0x5A, 0x5B, 0x5C, 0x5F] : List Byte) ++
  ([0x62, 0x63, 0x64, 0x67, 0x6B, 0x6F, 0x72, 0x73, 0x74, 0x77, 0x7A, 0x7B, 0x7C, 0x7F] : List Byte) ++
  ([0x80, 0x82, 0x83, 0x87, 0x89, 0x8B, 0x8F, 0x92, 0x93, 0x97, 0x9B, 0x9C, 0x9E, 0x9F] : List Byte) ++
  ([0xA3, 0xA7, 0xAB, 0xAF, 0xB2, 0xB3, 0xB7, 0xBB, 0xBF, 0xC2, 0xC3, 0xC7, 0xCB, 0xCF] : List Byte) ++
  ([0xD2, 0xD3, 0xD4, 0xD7, 0xDA, 0xDB, 0xDC, 0xDF, 0xE2, 0xEB, 0xF2, 0xF4, 0xFA, 0xFC] : List Byte)

/-- Whether the instruction is a branch that is taken in `s` (47_branch.md R210 to R218). -/
def takenBranch (i : Instr) (s : State) : Bool :=
  match (rowOf i).mnemonic with
  | .bcc => !flag .carry s
  | .bcs => flag .carry s
  | .beq => flag .zero s
  | .bne => !flag .zero s
  | .bpl => !flag .negative s
  | .bvc => !flag .overflow s
  | .bvs => flag .overflow s
  | .bmi => if s.profile = .source then !flag .zero s else flag .negative s
  | _ => false

/-- Whether the instruction has the accumulator mode. -/
def inAccMode (i : Instr) : Bool := (rowOf i).mode == .acc

/-- The mnemonics whose result goes to Zero and Negative in both profiles (10_state.md R25). -/
def znWriters : List Mnemonic :=
  [.lda, .ldx, .ldy, .tax, .tay, .tsx, .txa, .tya, .pla, .plp, .and, .ora, .eor, .bit, .adc, .sbc, .isc,
   .asl, .lsr, .rol, .ror, .inc, .dec, .inx, .iny, .dex, .dey, .rti]

/-- The instructions that write a flag: the "written by" column of 10_state.md R25. -/
def flagWriters (pr : Profile) : Flag → List Mnemonic
  | .carry => [.adc, .sbc, .isc, .cmp, .cpx, .cpy, .asl, .lsr, .rol, .ror, .clc, .sec, .plp, .rti]
  | .zero => znWriters ++ [.cmp, .cpx, .cpy]
  | .interruptDisable => [.cli, .sei, .plp, .rti] ++ (if pr = .nmos then [.brk] else [])
  | .decimal => [.cld, .sed, .plp, .rti]
  | .brk => [.brk] ++ (if pr = .source then [.plp, .rti] else [])
  | .unused => if pr = .source then [.plp, .rti] else []
  | .overflow => [.adc, .sbc, .isc, .bit, .clv, .plp, .rti]
  | .negative => znWriters ++ (if pr = .nmos then [.cmp, .cpx, .cpy] else [])

/-- The addresses an instruction stores to (20_memory.md R54): the effective address of a store or a
read-modify-write, the stack bytes of a push, none else. -/
def storedAddresses (i : Instr) (s : State) : List Word :=
  match i with
  | .staZp zz => [effectiveAddress (.zp zz) s]
  | .staZpx zz => [effectiveAddress (.zpx zz) s]
  | .staAbs hhll => [effectiveAddress (.abs hhll) s]
  | .staAbsx hhll => [effectiveAddress (.absx hhll) s]
  | .staAbsy hhll => [effectiveAddress (.absy hhll) s]
  | .staIndx zz => [effectiveAddress (.indx zz) s]
  | .staIndy zz => [effectiveAddress (.indy zz) s]
  | .stxZp zz => [effectiveAddress (.zp zz) s]
  | .stxZpy zz => [effectiveAddress (.zpy zz) s]
  | .stxAbs hhll => [effectiveAddress (.abs hhll) s]
  | .styZp zz => [effectiveAddress (.zp zz) s]
  | .styZpx zz => [effectiveAddress (.zpx zz) s]
  | .styAbs hhll => [effectiveAddress (.abs hhll) s]
  | .aslZp zz => [effectiveAddress (.zp zz) s]
  | .aslZpx zz => [effectiveAddress (.zpx zz) s]
  | .aslAbs hhll => [effectiveAddress (.abs hhll) s]
  | .aslAbsx hhll => [effectiveAddress (.absx hhll) s]
  | .lsrZp zz => [effectiveAddress (.zp zz) s]
  | .lsrZpx zz => [effectiveAddress (.zpx zz) s]
  | .lsrAbs hhll => [effectiveAddress (.abs hhll) s]
  | .lsrAbsx hhll => [effectiveAddress (.absx hhll) s]
  | .rolZp zz => [effectiveAddress (.zp zz) s]
  | .rolZpx zz => [effectiveAddress (.zpx zz) s]
  | .rolAbs hhll => [effectiveAddress (.abs hhll) s]
  | .rolAbsx hhll => [effectiveAddress (.absx hhll) s]
  | .rorZp zz => [effectiveAddress (.zp zz) s]
  | .rorZpx zz => [effectiveAddress (.zpx zz) s]
  | .rorAbs hhll => [effectiveAddress (.abs hhll) s]
  | .rorAbsx hhll => [effectiveAddress (.absx hhll) s]
  | .incZp zz => [effectiveAddress (.zp zz) s]
  | .incZpx zz => [effectiveAddress (.zpx zz) s]
  | .incAbs hhll => [effectiveAddress (.abs hhll) s]
  | .incAbsx hhll => [effectiveAddress (.absx hhll) s]
  | .decZp zz => [effectiveAddress (.zp zz) s]
  | .decZpx zz => [effectiveAddress (.zpx zz) s]
  | .decAbs hhll => [effectiveAddress (.abs hhll) s]
  | .decAbsx hhll => [effectiveAddress (.absx hhll) s]
  | .iscZp zz => [effectiveAddress (.zp zz) s]
  | .iscZpx zz => [effectiveAddress (.zpx zz) s]
  | .iscAbs hhll => [effectiveAddress (.abs hhll) s]
  | .iscAbsx hhll => [effectiveAddress (.absx hhll) s]
  | .iscAbsy hhll => [effectiveAddress (.absy hhll) s]
  | .iscIndx zz => [effectiveAddress (.indx zz) s]
  | .iscIndy zz => [effectiveAddress (.indy zz) s]
  | .pha => [stackAddress s.sp]
  | .php => [stackAddress s.sp]
  | .jsr _ => [stackAddress s.sp, stackAddress (s.sp - 1#8)]
  | .brk => [stackAddress s.sp, stackAddress (s.sp - 1#8), stackAddress (s.sp - 2#8)]
  | _ => []

/-- LDA: the operand value goes to A, Z and N follow it (R140). -/
def ldaEffect (m : Byte) (s t : State) : Prop :=
  RegsAre t m s.x s.y s.sp ∧ FlagsBecome s t (znOf m) ∧ MemoryKept s t

/-- LDX: the operand value goes to X, Z and N follow it (R141). -/
def ldxEffect (m : Byte) (s t : State) : Prop :=
  RegsAre t s.a m s.y s.sp ∧ FlagsBecome s t (znOf m) ∧ MemoryKept s t

/-- LDY: the operand value goes to Y, Z and N follow it (R142). -/
def ldyEffect (m : Byte) (s t : State) : Prop :=
  RegsAre t s.a s.x m s.sp ∧ FlagsBecome s t (znOf m) ∧ MemoryKept s t

/-- A store of A at `ea`: that byte and nothing else. -/
def storeAEffect (ea : Word) (s t : State) : Prop :=
  RegsKept s t ∧ FlagsKept s t ∧ ByteStored s t ea s.a

/-- A store of X at `ea`: that byte and nothing else. -/
def storeXEffect (ea : Word) (s t : State) : Prop :=
  RegsKept s t ∧ FlagsKept s t ∧ ByteStored s t ea s.x

/-- A store of Y at `ea`: that byte and nothing else. -/
def storeYEffect (ea : Word) (s t : State) : Prop :=
  RegsKept s t ∧ FlagsKept s t ∧ ByteStored s t ea s.y

/-- AND: A becomes `A &&& M`, Z and N follow it (R170). -/
def andEffect (m : Byte) (s t : State) : Prop :=
  RegsAre t (s.a &&& m) s.x s.y s.sp ∧ FlagsBecome s t (znOf (s.a &&& m)) ∧ MemoryKept s t

/-- ORA: A becomes `A ||| M`, Z and N follow it (R171). -/
def oraEffect (m : Byte) (s t : State) : Prop :=
  RegsAre t (s.a ||| m) s.x s.y s.sp ∧ FlagsBecome s t (znOf (s.a ||| m)) ∧ MemoryKept s t

/-- EOR: A becomes `A ^^^ M`, Z and N follow it (R172). -/
def eorEffect (m : Byte) (s t : State) : Prop :=
  RegsAre t (s.a ^^^ m) s.x s.y s.sp ∧ FlagsBecome s t (znOf (s.a ^^^ m)) ∧ MemoryKept s t

/-- BIT: Z from `A & M`, V and N from bits 6 and 7 of M (R173). -/
def bitEffect (m : Byte) (s t : State) : Prop :=
  RegsKept s t ∧
  FlagsBecome s t [(.zero, decide (s.a &&& m = 0#8)), (.overflow, m.getLsbD 6), (.negative, m.getLsbD 7)] ∧
  MemoryKept s t

/-- The NMOS sum of A, `m` and the carry (R174): result, C, V signed, Z and N. -/
def nmosSumEffect (m : Byte) (s t : State) : Prop :=
  let sum := s.a.toNat + m.toNat + carryNat s
  let r : Byte := BitVec.ofNat 8 sum
  t.a = r ∧
  FlagsBecome s t ([(.carry, decide (sum > 255)),
    (.overflow, (s.a.getLsbD 7 != r.getLsbD 7) && (m.getLsbD 7 != r.getLsbD 7))] ++ znOf r)

/-- ADC (R174, R175). -/
def adcEffect (m : Byte) (s t : State) : Prop :=
  (s.profile = .source →
    t.a = s.a + m ∧
    FlagsBecome s t ([(.carry, decide (s.a.toNat + m.toNat > 255)),
      (.overflow, decide (s.a.toNat + m.toNat > 255))] ++ znOf (s.a + m))) ∧
  (s.profile = .nmos → nmosSumEffect m s t) ∧
  t.x = s.x ∧ t.y = s.y ∧ t.sp = s.sp ∧ MemoryKept s t

/-- What SBC and ISC do to A and P with the operand `m` (R176). -/
def subtractEffect (m : Byte) (s t : State) : Prop :=
  let sub : Byte := BitVec.ofNat 8 (m.toNat + (1 - carryNat s))
  (s.profile = .source →
    t.a = s.a - sub ∧
    FlagsBecome s t ([(.carry, decide (s.a.toNat + sub.toNat > 255)),
      (.overflow, decide (s.a.toNat < sub.toNat))] ++ znOf (s.a - sub))) ∧
  (s.profile = .nmos → nmosSumEffect (~~~m) s t) ∧
  t.a = BitVec.ofInt 8 ((s.a.toNat : Int) - m.toNat - (1 - carryNat s)) ∧
  t.x = s.x ∧ t.y = s.y ∧ t.sp = s.sp

/-- SBC (R177). -/
def sbcEffect (m : Byte) (s t : State) : Prop := subtractEffect m s t ∧ MemoryKept s t

/-- ISC at `ea` (R178): the byte there is incremented, and then subtracted from A. -/
def iscEffect (ea : Word) (s t : State) : Prop :=
  subtractEffect (loadByte ea s + 1#8) s t ∧ ByteStored s t ea (loadByte ea s + 1#8)

/-- Compare of the register value `r` with `m` (R180). -/
def compareEffect (r m : Byte) (s t : State) : Prop :=
  (s.profile = .source →
    FlagsBecome s t [(.carry, decide (r.toNat > m.toNat)), (.zero, decide (r = m))]) ∧
  (s.profile = .nmos →
    FlagsBecome s t [(.carry, decide (r.toNat ≥ m.toNat)), (.zero, decide (r = m)),
      (.negative, (r - m).getLsbD 7)]) ∧
  RegsKept s t ∧ MemoryKept s t

/-- CMP, CPX and CPY compare A, X and Y (R181 to R183). -/
def cmpEffect (m : Byte) (s t : State) : Prop := compareEffect s.a m s t

/-- CPX (R182). -/
def cpxEffect (m : Byte) (s t : State) : Prop := compareEffect s.x m s t

/-- CPY (R183). -/
def cpyEffect (m : Byte) (s t : State) : Prop := compareEffect s.y m s t

/-- The result of ASL: `v << 1` (R190). -/
def aslValue (v : Byte) : Byte := BitVec.ofNat 8 (2 * v.toNat)

/-- ASL of the accumulator (R190). -/
def aslAccEffect (s t : State) : Prop :=
  RegsAre t (aslValue s.a) s.x s.y s.sp ∧
  FlagsBecome s t ((.carry, s.a.getLsbD 7) :: znOf (aslValue s.a)) ∧ MemoryKept s t

/-- ASL of the byte at `ea` (R190). -/
def aslMemEffect (ea : Word) (s t : State) : Prop :=
  let v := loadByte ea s
  RegsKept s t ∧ FlagsBecome s t ((.carry, v.getLsbD 7) :: znOf (aslValue v)) ∧
  ByteStored s t ea (aslValue v)

/-- The result of LSR: `v >> 1` (R191). -/
def lsrValue (v : Byte) : Byte := BitVec.ofNat 8 (v.toNat / 2)

/-- LSR of the accumulator (R191). -/
def lsrAccEffect (s t : State) : Prop :=
  RegsAre t (lsrValue s.a) s.x s.y s.sp ∧
  FlagsBecome s t ((.carry, s.a.getLsbD 0) :: znOf (lsrValue s.a)) ∧ MemoryKept s t

/-- LSR of the byte at `ea` (R191). -/
def lsrMemEffect (ea : Word) (s t : State) : Prop :=
  let v := loadByte ea s
  RegsKept s t ∧ FlagsBecome s t ((.carry, v.getLsbD 0) :: znOf (lsrValue v)) ∧
  ByteStored s t ea (lsrValue v)

/-- The result of ROL: `(v << 1) | c` (R192). -/
def rolValue (v : Byte) (s : State) : Byte := BitVec.ofNat 8 (2 * v.toNat + carryNat s)

/-- ROL of the accumulator (R192). -/
def rolAccEffect (s t : State) : Prop :=
  RegsAre t (rolValue s.a s) s.x s.y s.sp ∧
  FlagsBecome s t ((.carry, s.a.getLsbD 7) :: znOf (rolValue s.a s)) ∧ MemoryKept s t

/-- ROL of the byte at `ea` (R192). -/
def rolMemEffect (ea : Word) (s t : State) : Prop :=
  let v := loadByte ea s
  RegsKept s t ∧ FlagsBecome s t ((.carry, v.getLsbD 7) :: znOf (rolValue v s)) ∧
  ByteStored s t ea (rolValue v s)

/-- The result of ROR: `(v >> 1) | (c << 7)` (R193). -/
def rorValue (v : Byte) (s : State) : Byte := BitVec.ofNat 8 (v.toNat / 2 + 128 * carryNat s)

/-- ROR of the accumulator (R193). -/
def rorAccEffect (s t : State) : Prop :=
  RegsAre t (rorValue s.a s) s.x s.y s.sp ∧
  FlagsBecome s t ((.carry, s.a.getLsbD 0) :: znOf (rorValue s.a s)) ∧ MemoryKept s t

/-- ROR of the byte at `ea` (R193). -/
def rorMemEffect (ea : Word) (s t : State) : Prop :=
  let v := loadByte ea s
  RegsKept s t ∧ FlagsBecome s t ((.carry, v.getLsbD 0) :: znOf (rorValue v s)) ∧
  ByteStored s t ea (rorValue v s)

/-- INC of the byte at `ea` (R200). -/
def incEffect (ea : Word) (s t : State) : Prop :=
  RegsKept s t ∧ FlagsBecome s t (znOf (loadByte ea s + 1#8)) ∧ ByteStored s t ea (loadByte ea s + 1#8)

/-- DEC of the byte at `ea` (R201). -/
def decEffect (ea : Word) (s t : State) : Prop :=
  RegsKept s t ∧ FlagsBecome s t (znOf (loadByte ea s - 1#8)) ∧ ByteStored s t ea (loadByte ea s - 1#8)

/-- A branch on `cond` (R210): PC and cycles as it is taken or not, and nothing else. -/
def BranchForm (op : Byte) (con : Byte → Instr) (cond : State → Bool) : Prop :=
  ∀ oo, Completes [op, oo] (con oo) fun s t =>
    (cond s = true → t.pc = BitVec.ofInt 16 ((s.pc.toNat : Int) + 2 + oo.toInt) ∧ t.cycles = s.cycles + 3) ∧
    (cond s = false → t.pc = s.pc + 2#16 ∧ t.cycles = s.cycles + 2) ∧
    RegsKept s t ∧ FlagsKept s t ∧ MemoryKept s t ∧ GoesOn s t

/-- The values an instruction stores, in the order of `storedAddresses`; `v` is the byte at the first of
them (the rules of STA, STX, STY, the read-modify-write instructions, ISC, PHA, PHP, JSR and BRK). -/
def storedValues (i : Instr) (s : State) : List Byte :=
  let v := loadByte ((storedAddresses i s).headD 0x0000#16) s
  let ret := s.pc + (if s.profile = .source then 1#16 else 2#16)
  match (rowOf i).mnemonic with
  | .sta => [s.a]
  | .stx => [s.x]
  | .sty => [s.y]
  | .asl => [aslValue v]
  | .lsr => [lsrValue v]
  | .rol => [rolValue v s]
  | .ror => [rorValue v s]
  | .inc => [v + 1#8]
  | .dec => [v - 1#8]
  | .isc => [v + 1#8]
  | .pha => [s.a]
  | .php => [if s.profile = .source then s.p else s.p ||| 0x30#8]
  | .jsr => [hiByte ret, loByte ret]
  | .brk => [hiByte (s.pc + 2#16), loByte (s.pc + 2#16), s.p ||| (if s.profile = .source then 0x10#8 else 0x30#8)]
  | _ => []

/-- The byte at `a` after an instruction: the value it stores there, else the byte before. -/
def byteAfter (i : Instr) (s : State) (a : Word) : Byte :=
  (((storedAddresses i s).zip (storedValues i s)).lookup a).getD (loadByte a s)

end Sys2Proof.Claims

open Sys2Proof Sys2Proof.Machine Sys2Proof.Claims

/-- Words written out from the spec decode to their instruction. R74, R71. -/
def Obligations.SpecWordsDecodeAsTheSpecSays : Prop :=
  decode [0xA9#8, 0x05#8] = .ok (.ldaImm 0x05#8, []) ∧
  decode [0x8D#8, 0x00#8, 0x02#8] = .ok (.staAbs 0x0200#16, []) ∧
  decode [0x96#8, 0xF8#8] = .ok (.stxZpy 0xF8#8, []) ∧
  decode [0x8A#8] = .ok (.txa, []) ∧
  decode [0x48#8] = .ok (.pha, []) ∧
  decode [0xE7#8, 0x10#8] = .ok (.iscZp 0x10#8, []) ∧
  decode [0xC9#8, 0x10#8] = .ok (.cmpImm 0x10#8, []) ∧
  decode [0x0A#8] = .ok (.aslAcc, []) ∧
  decode [0xE8#8] = .ok (.inx, []) ∧
  decode [0xD0#8, 0xFD#8] = .ok (.bne 0xFD#8, []) ∧
  decode [0x6C#8, 0xFF#8, 0x30#8] = .ok (.jmpInd 0x30FF#16, []) ∧
  decode [0xF8#8] = .ok (.sed, []) ∧
  decode [0x00#8] = .ok (.brk, [])

/-- Decoding an encoded instruction, before any further bytes, gives it back. 30_encoding.md sections 1 and 2. -/
def Obligations.DecodeOfEncodeReturnsTheInstruction : Prop :=
  ∀ (i : Instr) (rest : List Byte), decode (encode i ++ rest) = .ok (i, rest)

/-- What decodes to an instruction is its encoding. 30_encoding.md sections 1 and 2. -/
def Obligations.DecodedBytesAreTheEncoding : Prop :=
  ∀ (bytes : List Byte) (i : Instr) (rest : List Byte), decode bytes = .ok (i, rest) → bytes = encode i ++ rest

/-- The decoder has no instruction for exactly the 98 bytes of R79. R78, R79, R301.
That the step on such an opcode answers a next state is the model's choice (log entry 5); the state it gives is that of R301. -/
def Obligations.UnknownOpcodesAreTheNinetyEight : Prop :=
  (unknownOpcodes.length = 98 ∧ unknownOpcodes.Nodup) ∧
  (∀ op b1 b2, decode [op, b1, b2] = .error (.unknownOpcode op) ↔ op ∈ unknownOpcodes) ∧
  (∀ op b1 b2, op ∉ unknownOpcodes → ∃ i rest, decode [op, b1, b2] = .ok (i, rest)) ∧
  (∀ op b1 b2 rest, decode [op, b1, b2] = .ok (.nop, rest) → op = 0xEA#8) ∧
  (∀ s, s.run = .running → loadByte s.pc s ∈ unknownOpcodes →
    step s = .next { s with run := .faulted (loadByte s.pc s) s.pc })

/-- Instructions with the same opcode byte have the same length and the same row. R70, 30_encoding.md section 1. -/
def Obligations.OpcodeAloneFixesTheLength : Prop :=
  (∀ i j : Instr, (encode i).head? = (encode j).head? →
    (encode i).length = (encode j).length ∧ rowOf i = rowOf j) ∧
  (∀ i : Instr, (encode i).length = 1 + operandBytes (rowOf i).mode)

/-- A running step whose bytes at PC decode to i is exec of i. R101, 40_execution_core.md section 1. -/
def Obligations.StepRunsTheDecodedInstruction : Prop :=
  ∀ (s : State) (i : Instr) (rest : List Byte), s.run = .running →
    decode [loadByte s.pc s, loadByte (s.pc + 1#16) s, loadByte (s.pc + 2#16) s] = .ok (i, rest) →
    step s = exec i s

/-- An instruction encoded at PC, wherever that is, is what the next step runs. R59, R70, R101. -/
def Obligations.StepRunsAnInstructionPlacedAtPc : Prop :=
  ∀ (s : State) (i : Instr), s.run = .running →
    step (storeBytes s.pc (encode i) s) = exec i (storeBytes s.pc (encode i) s)

/-- An opcode byte without a handler: Run becomes Faulted(op, PC), nothing else changes, and that is terminal. R301.
That this step answers a next state, and a step on a Faulted state this fault, is the model's choice (log entry 5). -/
def Obligations.UnknownOpcodeEndsTheRunAndChangesNothingElse : Prop :=
  (∀ s : State, s.run = .running → loadByte s.pc s ∈ unknownOpcodes →
    ∃ t, step s = .next t ∧ t.run = .faulted (loadByte s.pc s) s.pc ∧ RegsKept s t ∧ t.p = s.p ∧
      t.pc = s.pc ∧ t.cycles = s.cycles ∧ t.mem = s.mem ∧ t.profile = s.profile ∧ runFailed t = true) ∧
  (∀ (s : State) (op : Byte) (addr : Word), s.run = .faulted op addr →
    step s = .fault (.unknownOpcode op addr)) ∧
  (∀ (i : Instr) (s t : State), s.run = .running → exec i s = .next t → runFailed t = false)

/-- Halted and Faulted are terminal: no step answers a next state. R32, R413.
What a step on a Halted or a Faulted state answers is the model's choice (log entries 5 and 6). -/
def Obligations.NoStepAfterTheEndOfTheRun : Prop :=
  (∀ s t : State, s.run ≠ .running → step s ≠ .next t) ∧
  (∀ s : State, s.run = .halted → step s = .refused .runHalted) ∧
  (∀ (s : State) (op : Byte) (addr : Word), s.run = .faulted op addr →
    step s = .fault (.unknownOpcode op addr))

/-- Every step keeps memory in its canonical form. R31, 20_memory.md section 1. -/
def Obligations.StepKeepsMemoryCanonical : Prop :=
  ∀ s t : State, s.mem.wf = true → step s = .next t → t.mem.wf = true

/-- Memory at reset is canonical. R34. -/
def Obligations.ResetMemoryIsCanonical : Prop :=
  State.reset.mem.wf = true

/-- Canonical memories that read the same everywhere are the same list. R31. -/
def Obligations.CanonicalMemoriesWithEqualBytesAreEqual : Prop :=
  ∀ m n : Memory, m.wf = true → n.wf = true → (∀ a : Word, Memory.read m a = Memory.read n a) → m = n

/-- No instruction and no step changes PROFILE. R8. -/
def Obligations.StepNeverChangesTheProfile : Prop :=
  (∀ (i : Instr) (s t : State), exec i s = .next t → t.profile = s.profile) ∧
  (∀ s t : State, step s = .next t → t.profile = s.profile)

/-- The Running state is left exactly by an unknown opcode and by BRK, and never entered again. R300. -/
def Obligations.OnlyBrkAndUnknownOpcodesEndTheRun : Prop :=
  ∀ s t : State, step s = .next t →
    s.run = .running ∧
    (t.run = .halted ↔ loadByte s.pc s = 0x00#8) ∧
    (runFailed t = true ↔ loadByte s.pc s ∈ unknownOpcodes) ∧
    (loadByte s.pc s ∈ unknownOpcodes → t.run = .faulted (loadByte s.pc s) s.pc) ∧
    (loadByte s.pc s ≠ 0x00#8 → loadByte s.pc s ∉ unknownOpcodes → t.run = .running) ∧
    (t.run ≠ .running → ∀ u : State, step t ≠ .next u)

/-- Cycles grow by the base cost, plus 1 for a taken branch, and by nothing on an unknown opcode. R126. -/
def Obligations.EachStepChargesItsCost : Prop :=
  (∀ (i : Instr) (s t : State), exec i s = .next t →
    t.cycles = s.cycles + baseCycles i + (if takenBranch i s then 1 else 0)) ∧
  baseCycles .brk = 7 ∧
  (∀ s t : State, step s = .next t → runFailed t = true → t.cycles = s.cycles) ∧
  (∀ s t : State, step s = .next t → s.cycles ≤ t.cycles)

/-- A, X, Y and SP are changed only by the instructions the state rules name. R22, R23, R24, R28. -/
def Obligations.RegistersChangeOnlyByTheirWriters : Prop :=
  ∀ (i : Instr) (s t : State), exec i s = .next t →
    (t.x ≠ s.x → (rowOf i).mnemonic ∈ [.ldx, .tax, .tsx, .inx, .dex]) ∧
    (t.y ≠ s.y → (rowOf i).mnemonic ∈ [.ldy, .tay, .iny, .dey]) ∧
    (t.sp ≠ s.sp → (rowOf i).mnemonic ∈ [.txs, .pha, .php, .pla, .plp, .jsr, .rts, .rti, .brk]) ∧
    (t.a ≠ s.a → (rowOf i).mnemonic ∈ [.lda, .txa, .tya, .pla, .and, .ora, .eor, .adc, .sbc, .isc] ∨
      ((rowOf i).mnemonic ∈ [.asl, .lsr, .rol, .ror] ∧ inAccMode i = true))

/-- Each bit of P is changed only by the instructions the P table names, profile by profile. R26, 10_state.md section 3. -/
def Obligations.FlagsChangeOnlyByTheirWriters : Prop :=
  ∀ (i : Instr) (s t : State) (f : Flag), exec i s = .next t → flag f t ≠ flag f s →
    (rowOf i).mnemonic ∈ flagWriters s.profile f

/-- Every byte an instruction does not store to reads as before, for every instruction. R54, R55. -/
def Obligations.MemoryChangesOnlyWhereTheInstructionStores : Prop :=
  ∀ (i : Instr) (s t : State), exec i s = .next t → MemoryKeptOutside s t (storedAddresses i s)

/-- I, D, B and U influence nothing but what PHP and BRK push. R25, R174. -/
def Obligations.StoredOnlyFlagsReachNothingButPushes : Prop :=
  ∀ (i : Instr) (f : Flag) (v : Bool) (s : State), (rowOf i).mnemonic ∉ [.php, .brk] →
    f ∈ [Flag.interruptDisable, .decimal, .brk, .unused] →
    ∃ t u, exec i s = .next t ∧ exec i (setFlag f v s) = .next u ∧ setFlag f false t = setFlag f false u

/-- No instruction reads the cycle counter. R30, R310. -/
def Obligations.CyclesAreNeverRead : Prop :=
  ∀ (i : Instr) (s : State) (n : Nat), ∃ t d, exec i s = .next t ∧ t.cycles = s.cycles + d ∧
    exec i (s.setCycles n) = .next (t.setCycles (n + d))

/-- Every instruction answers a next state in every state. R302, R309. -/
def Obligations.EveryInstructionCompletes : Prop :=
  ∀ (i : Instr) (s : State), ∃ t, exec i s = .next t

/-- The flags are bits 0 to 7 of P, and the bit utilities read and write one bit. R25, R27. -/
def Obligations.FlagsStandAtTheirBits : Prop :=
  (∀ s : State, flag .carry s = s.p.getLsbD 0 ∧ flag .zero s = s.p.getLsbD 1 ∧
    flag .interruptDisable s = s.p.getLsbD 2 ∧ flag .decimal s = s.p.getLsbD 3 ∧
    flag .brk s = s.p.getLsbD 4 ∧ flag .unused s = s.p.getLsbD 5 ∧
    flag .overflow s = s.p.getLsbD 6 ∧ flag .negative s = s.p.getLsbD 7) ∧
  (∀ (b : Byte) (pos q : Fin 8), getBit b pos = b.getLsbD pos ∧
    getBit (setBit b pos) q = (decide (q = pos) || getBit b q) ∧
    getBit (clearBit b pos) q = (!decide (q = pos) && getBit b q)) ∧
  (∀ (f : Flag) (v : Bool) (s : State), FlagsBecome s (setFlag f v s) [(f, v)])

/-- The shared flag helpers write their flags as the rules state. R119, R120, R121, R122, R123. -/
def Obligations.FlagHelpersWriteTheirConditions : Prop :=
  ∀ (a b v : Byte) (s : State),
    FlagsBecome s (setZeroFlag v s) [(.zero, decide (v.toNat = 0))] ∧
    FlagsBecome s (setNegativeFlag v s) [(.negative, v.getLsbD 7)] ∧
    setZN v s = setNegativeFlag v (setZeroFlag v s) ∧
    FlagsBecome s (setZN v s) [(.zero, decide (v.toNat = 0)), (.negative, v.getLsbD 7)] ∧
    FlagsBecome s (setCarryFlag a b s) [(.carry, decide (a.toNat > 255 - b.toNat))] ∧
    FlagsBecome s (setCarryFlag a b s) [(.carry, decide (a.toNat + b.toNat > 255))] ∧
    FlagsBecome s (setOverflowAdd a b s) [(.overflow, decide (a.toNat + b.toNat > 255))] ∧
    FlagsBecome s (setOverflowSub a b s) [(.overflow, decide (a.toNat < b.toNat))]

/-- Zero-page modes wrap in page 0, absolute indexed modes modulo 65536. R106, R107, R108, R109, R110, R111. -/
def Obligations.DirectModesGiveTheirAddress : Prop :=
  ∀ (s : State) (zz : Byte) (hhll : Word),
    (effectiveAddress (.zp zz) s).toNat = zz.toNat ∧
    (effectiveAddress (.zpx zz) s).toNat = (zz.toNat + s.x.toNat) % 256 ∧
    (effectiveAddress (.zpy zz) s).toNat = (zz.toNat + s.y.toNat) % 256 ∧
    (effectiveAddress (.abs hhll) s).toNat = 256 * (hiByte hhll).toNat + (loByte hhll).toNat ∧
    (effectiveAddress (.absx hhll) s).toNat = (hhll.toNat + s.x.toNat) % 65536 ∧
    (effectiveAddress (.absy hhll) s).toNat = (hhll.toNat + s.y.toNat) % 65536 ∧
    (∀ o : MemOperand, operandValue o s = loadByte (effectiveAddress o s) s)

/-- (zp,X) and (zp),Y are zero-page cells in SOURCE and pointers in NMOS. R112, R113.
The spec marks the NMOS branch of the rule `[from general knowledge, not in source]`. -/
def Obligations.IndirectModesFollowTheProfile : Prop :=
  ∀ (s : State) (zz : Byte),
    (s.profile = .source →
      (effectiveAddress (.indx zz) s).toNat = (zz.toNat + s.x.toNat) % 256 ∧
      (effectiveAddress (.indy zz) s).toNat = (zz.toNat + s.y.toNat) % 256) ∧
    (s.profile = .nmos →
      (effectiveAddress (.indx zz) s).toNat =
        256 * (loadByte (BitVec.ofNat 16 ((zz.toNat + s.x.toNat + 1) % 256)) s).toNat +
          (loadByte (BitVec.ofNat 16 ((zz.toNat + s.x.toNat) % 256)) s).toNat ∧
      (effectiveAddress (.indy zz) s).toNat =
        (256 * (loadByte (BitVec.ofNat 16 ((zz.toNat + 1) % 256)) s).toNat +
          (loadByte (BitVec.ofNat 16 zz.toNat) s).toNat + s.y.toNat) % 65536)

/-- Push writes 0100 + SP and decrements SP, pull increments SP and reads, both inside page 1. R28, R125. -/
def Obligations.PushAndPullStayInPageOne : Prop :=
  ∀ (v : Byte) (s : State),
    ByteStored s (push8 v s) (BitVec.ofNat 16 (256 + s.sp.toNat)) v ∧
    (push8 v s).sp.toNat = (s.sp.toNat + 255) % 256 ∧
    (pull8 s).sp.toNat = (s.sp.toNat + 1) % 256 ∧
    pulled8 s = loadByte (BitVec.ofNat 16 (256 + (s.sp.toNat + 1) % 256)) s ∧
    (∀ t, t = push8 v s ∨ t = pull8 s →
      t.a = s.a ∧ t.x = s.x ∧ t.y = s.y ∧ t.p = s.p ∧ t.pc = s.pc ∧ t.cycles = s.cycles ∧ GoesOn s t) ∧
    MemoryKept s (pull8 s) ∧
    pulled8 (push8 v s) = v ∧ (pull8 (push8 v s)).sp = s.sp

/-- LDA: A becomes the operand value, Z and N follow it, nothing else changes. R140. -/
def Obligations.LdaLoadsTheAccumulator : Prop :=
  ByteForm 0xA9#8 .ldaImm 2 ldaEffect ∧
  ByteForm 0xA5#8 .ldaZp 3 (reads .zp ldaEffect) ∧
  ByteForm 0xB5#8 .ldaZpx 4 (reads .zpx ldaEffect) ∧
  WordForm 0xAD#8 .ldaAbs 4 (reads .abs ldaEffect) ∧
  WordForm 0xBD#8 .ldaAbsx 4 (reads .absx ldaEffect) ∧
  WordForm 0xB9#8 .ldaAbsy 4 (reads .absy ldaEffect) ∧
  ByteForm 0xA1#8 .ldaIndx 6 (reads .indx ldaEffect) ∧
  ByteForm 0xB1#8 .ldaIndy 5 (reads .indy ldaEffect)

/-- LDX: X becomes the operand value, Z and N follow it, nothing else changes. R141. -/
def Obligations.LdxLoadsX : Prop :=
  ByteForm 0xA2#8 .ldxImm 2 ldxEffect ∧
  ByteForm 0xA6#8 .ldxZp 3 (reads .zp ldxEffect) ∧
  ByteForm 0xB6#8 .ldxZpy 4 (reads .zpy ldxEffect) ∧
  WordForm 0xAE#8 .ldxAbs 4 (reads .abs ldxEffect) ∧
  WordForm 0xBE#8 .ldxAbsy 4 (reads .absy ldxEffect)

/-- LDY: Y becomes the operand value, Z and N follow it, nothing else changes. R142. -/
def Obligations.LdyLoadsY : Prop :=
  ByteForm 0xA0#8 .ldyImm 2 ldyEffect ∧
  ByteForm 0xA4#8 .ldyZp 3 (reads .zp ldyEffect) ∧
  ByteForm 0xB4#8 .ldyZpx 4 (reads .zpx ldyEffect) ∧
  WordForm 0xAC#8 .ldyAbs 4 (reads .abs ldyEffect) ∧
  WordForm 0xBC#8 .ldyAbsx 4 (reads .absx ldyEffect)

/-- STA, STX and STY store their register at the effective address and change nothing else. R143, R144, R145. -/
def Obligations.StoresWriteOneByte : Prop :=
  ByteForm 0x85#8 .staZp 3 (at_ .zp storeAEffect) ∧
  ByteForm 0x95#8 .staZpx 4 (at_ .zpx storeAEffect) ∧
  WordForm 0x8D#8 .staAbs 4 (at_ .abs storeAEffect) ∧
  WordForm 0x9D#8 .staAbsx 5 (at_ .absx storeAEffect) ∧
  WordForm 0x99#8 .staAbsy 5 (at_ .absy storeAEffect) ∧
  ByteForm 0x81#8 .staIndx 6 (at_ .indx storeAEffect) ∧
  ByteForm 0x91#8 .staIndy 6 (at_ .indy storeAEffect) ∧
  ByteForm 0x86#8 .stxZp 3 (at_ .zp storeXEffect) ∧
  ByteForm 0x96#8 .stxZpy 4 (at_ .zpy storeXEffect) ∧
  WordForm 0x8E#8 .stxAbs 4 (at_ .abs storeXEffect) ∧
  ByteForm 0x84#8 .styZp 3 (at_ .zp storeYEffect) ∧
  ByteForm 0x94#8 .styZpx 4 (at_ .zpx storeYEffect) ∧
  WordForm 0x8C#8 .styAbs 4 (at_ .abs storeYEffect)

/-- TAX, TAY, TSX, TYA copy and set Z and N; TXS copies and sets no flag. R150, R151, R152, R154, R155. -/
def Obligations.TransfersCopyTheirRegister : Prop :=
  PlainForm 0xAA#8 .tax 2 (fun s t =>
    RegsAre t s.a (s.a) s.y s.sp ∧ FlagsBecome s t (znOf (s.a)) ∧ MemoryKept s t) ∧
  PlainForm 0xA8#8 .tay 2 (fun s t =>
    RegsAre t s.a s.x (s.a) s.sp ∧ FlagsBecome s t (znOf (s.a)) ∧ MemoryKept s t) ∧
  PlainForm 0xBA#8 .tsx 2 (fun s t =>
    RegsAre t s.a (s.sp) s.y s.sp ∧ FlagsBecome s t (znOf (s.sp)) ∧ MemoryKept s t) ∧
  PlainForm 0x98#8 .tya 2 (fun s t =>
    RegsAre t (s.y) s.x s.y s.sp ∧ FlagsBecome s t (znOf (s.y)) ∧ MemoryKept s t) ∧
  PlainForm 0x9A#8 .txs 2 (fun s t =>
    RegsAre t s.a s.x s.y s.x ∧ FlagsKept s t ∧ MemoryKept s t)

/-- TXA copies SP in the SOURCE profile and X in the NMOS profile. R153.
The spec marks the NMOS branch of the rule `[from general knowledge, not in source]`. -/
def Obligations.TxaCopiesTheProfilesRegister : Prop :=
  PlainForm 0x8A#8 .txa 2 (fun s t =>
    (s.profile = .source → RegsAre t s.sp s.x s.y s.sp ∧ FlagsBecome s t (znOf s.sp)) ∧
    (s.profile = .nmos → RegsAre t s.x s.x s.y s.sp ∧ FlagsBecome s t (znOf s.x)) ∧
    MemoryKept s t)

/-- PHA pushes A, PHP pushes P (with bits 4 and 5 set in NMOS). R156, R157.
The spec marks the NMOS branch of the rule `[from general knowledge, not in source]`. -/
def Obligations.PhaAndPhpPushOneByte : Prop :=
  PlainForm 0x48#8 .pha 3 (fun s t =>
    RegsAre t s.a s.x s.y (s.sp - 1#8) ∧ FlagsKept s t ∧ ByteStored s t (BitVec.ofNat 16 (256 + s.sp.toNat)) s.a) ∧
  PlainForm 0x08#8 .php 3 (fun s t =>
    RegsAre t s.a s.x s.y (s.sp - 1#8) ∧ FlagsKept s t ∧
    ByteStored s t (BitVec.ofNat 16 (256 + s.sp.toNat)) (if s.profile = .source then s.p else s.p ||| 0x30#8))

/-- PLA pulls A and sets Z and N, PLP pulls P (bits 4 and 5 kept in NMOS). R158, R159.
The spec marks the NMOS branch of the rule `[from general knowledge, not in source]`. -/
def Obligations.PlaAndPlpPullOneByte : Prop :=
  PlainForm 0x68#8 .pla 4 (fun s t =>
    RegsAre t (loadByte (stackAddress (s.sp + 1#8)) s) s.x s.y (s.sp + 1#8) ∧
    FlagsBecome s t (znOf (loadByte (stackAddress (s.sp + 1#8)) s)) ∧ MemoryKept s t) ∧
  PlainForm 0x28#8 .plp 4 (fun s t =>
    RegsKept s { t with sp := s.sp } ∧ t.sp = s.sp + 1#8 ∧ MemoryKept s t ∧
    (s.profile = .source → t.p = loadByte (stackAddress (s.sp + 1#8)) s) ∧
    (s.profile = .nmos → ∀ f : Flag, flag f t =
      if f = .brk ∨ f = .unused then flag f s
      else getBit (loadByte (stackAddress (s.sp + 1#8)) s) (flagBit f)))

/-- PHA then PLA restores A and PHP then PLP restores P, with code in between that keeps the stack byte and SP. 42_transfer_stack.md section Stack, R158, R159. -/
def Obligations.PushThenPullRestores : Prop :=
  (∀ s t u v : State, exec .pha s = .next t → u.sp = t.sp →
    loadByte (stackAddress s.sp) u = loadByte (stackAddress s.sp) t → exec .pla u = .next v →
    v.a = s.a ∧ v.sp = s.sp) ∧
  (∀ s t u v : State, exec .php s = .next t → u.sp = t.sp → u.profile = s.profile →
    loadByte (stackAddress s.sp) u = loadByte (stackAddress s.sp) t → exec .plp u = .next v →
    (s.profile = .source → v.p = s.p ∧ v.sp = s.sp) ∧
    (s.profile = .nmos → flag .brk u = flag .brk s → flag .unused u = flag .unused s →
      v.p = s.p ∧ v.sp = s.sp))

/-- AND, ORA and EOR combine the operand with A bit by bit and set Z and N. R170, R171, R172. -/
def Obligations.LogicalInstructionsCombineWithA : Prop :=
  ByteForm 0x29#8 .andImm 2 andEffect ∧
  ByteForm 0x25#8 .andZp 3 (reads .zp andEffect) ∧
  ByteForm 0x35#8 .andZpx 4 (reads .zpx andEffect) ∧
  WordForm 0x2D#8 .andAbs 4 (reads .abs andEffect) ∧
  WordForm 0x3D#8 .andAbsx 4 (reads .absx andEffect) ∧
  WordForm 0x39#8 .andAbsy 4 (reads .absy andEffect) ∧
  ByteForm 0x21#8 .andIndx 6 (reads .indx andEffect) ∧
  ByteForm 0x31#8 .andIndy 5 (reads .indy andEffect) ∧
  ByteForm 0x09#8 .oraImm 2 oraEffect ∧
  ByteForm 0x05#8 .oraZp 3 (reads .zp oraEffect) ∧
  ByteForm 0x15#8 .oraZpx 4 (reads .zpx oraEffect) ∧
  WordForm 0x0D#8 .oraAbs 4 (reads .abs oraEffect) ∧
  WordForm 0x1D#8 .oraAbsx 4 (reads .absx oraEffect) ∧
  WordForm 0x19#8 .oraAbsy 4 (reads .absy oraEffect) ∧
  ByteForm 0x01#8 .oraIndx 6 (reads .indx oraEffect) ∧
  ByteForm 0x11#8 .oraIndy 5 (reads .indy oraEffect) ∧
  ByteForm 0x49#8 .eorImm 2 eorEffect ∧
  ByteForm 0x45#8 .eorZp 3 (reads .zp eorEffect) ∧
  ByteForm 0x55#8 .eorZpx 4 (reads .zpx eorEffect) ∧
  WordForm 0x4D#8 .eorAbs 4 (reads .abs eorEffect) ∧
  WordForm 0x5D#8 .eorAbsx 4 (reads .absx eorEffect) ∧
  WordForm 0x59#8 .eorAbsy 4 (reads .absy eorEffect) ∧
  ByteForm 0x41#8 .eorIndx 6 (reads .indx eorEffect) ∧
  ByteForm 0x51#8 .eorIndy 5 (reads .indy eorEffect)

/-- BIT sets Z from A and M, V and N from bits 6 and 7 of M, and writes no register. R173. -/
def Obligations.BitTestsWithoutWriting : Prop :=
  ByteForm 0x24#8 .bitZp 3 (reads .zp bitEffect) ∧
  WordForm 0x2C#8 .bitAbs 4 (reads .abs bitEffect)

/-- ADC: no carry-in and an unsigned overflow in SOURCE, carry-in and signed overflow in NMOS. R174, R175.
The spec marks the NMOS branch of the rule `[from general knowledge, not in source]`. -/
def Obligations.AdcAddsByProfile : Prop :=
  ByteForm 0x69#8 .adcImm 2 adcEffect ∧
  ByteForm 0x65#8 .adcZp 3 (reads .zp adcEffect) ∧
  ByteForm 0x75#8 .adcZpx 4 (reads .zpx adcEffect) ∧
  WordForm 0x6D#8 .adcAbs 4 (reads .abs adcEffect) ∧
  WordForm 0x7D#8 .adcAbsx 4 (reads .absx adcEffect) ∧
  WordForm 0x79#8 .adcAbsy 4 (reads .absy adcEffect) ∧
  ByteForm 0x61#8 .adcIndx 6 (reads .indx adcEffect) ∧
  ByteForm 0x71#8 .adcIndy 5 (reads .indy adcEffect)

/-- SBC subtracts with borrow in both profiles; C and V differ by profile. R176, R177.
The spec marks the NMOS branch of the rule `[from general knowledge, not in source]`.
The spec marks the result A - M - (1 - C) common to both profiles `[derived: from this rule]` (R176). -/
def Obligations.SbcSubtractsByProfile : Prop :=
  ByteForm 0xE9#8 .sbcImm 2 sbcEffect ∧
  ByteForm 0xE5#8 .sbcZp 3 (reads .zp sbcEffect) ∧
  ByteForm 0xF5#8 .sbcZpx 4 (reads .zpx sbcEffect) ∧
  WordForm 0xED#8 .sbcAbs 4 (reads .abs sbcEffect) ∧
  WordForm 0xFD#8 .sbcAbsx 4 (reads .absx sbcEffect) ∧
  WordForm 0xF9#8 .sbcAbsy 4 (reads .absy sbcEffect) ∧
  ByteForm 0xE1#8 .sbcIndx 6 (reads .indx sbcEffect) ∧
  ByteForm 0xF1#8 .sbcIndy 5 (reads .indy sbcEffect)

/-- ISC increments the byte at its address and subtracts the result from A. R176, R178.
The spec marks the NMOS branch of the rule `[from general knowledge, not in source]`.
The spec marks the result A - M - (1 - C) common to both profiles `[derived: from this rule]` (R176). -/
def Obligations.IscIncrementsThenSubtracts : Prop :=
  ByteForm 0xE7#8 .iscZp 5 (at_ .zp iscEffect) ∧
  ByteForm 0xF7#8 .iscZpx 6 (at_ .zpx iscEffect) ∧
  WordForm 0xEF#8 .iscAbs 6 (at_ .abs iscEffect) ∧
  WordForm 0xFF#8 .iscAbsx 7 (at_ .absx iscEffect) ∧
  WordForm 0xFB#8 .iscAbsy 7 (at_ .absy iscEffect) ∧
  ByteForm 0xE3#8 .iscIndx 8 (at_ .indx iscEffect) ∧
  ByteForm 0xF3#8 .iscIndy 8 (at_ .indy iscEffect)

/-- CMP, CPX and CPY set C and Z by profile, N only in NMOS, and write nothing else. R180, R181, R182, R183.
The spec marks the NMOS branch of the rule `[from general knowledge, not in source]`. -/
def Obligations.ComparesWriteOnlyFlags : Prop :=
  ByteForm 0xC9#8 .cmpImm 2 cmpEffect ∧
  ByteForm 0xC5#8 .cmpZp 3 (reads .zp cmpEffect) ∧
  ByteForm 0xD5#8 .cmpZpx 4 (reads .zpx cmpEffect) ∧
  WordForm 0xCD#8 .cmpAbs 4 (reads .abs cmpEffect) ∧
  WordForm 0xDD#8 .cmpAbsx 4 (reads .absx cmpEffect) ∧
  WordForm 0xD9#8 .cmpAbsy 4 (reads .absy cmpEffect) ∧
  ByteForm 0xC1#8 .cmpIndx 6 (reads .indx cmpEffect) ∧
  ByteForm 0xD1#8 .cmpIndy 5 (reads .indy cmpEffect) ∧
  ByteForm 0xE0#8 .cpxImm 2 cpxEffect ∧
  ByteForm 0xE4#8 .cpxZp 3 (reads .zp cpxEffect) ∧
  WordForm 0xEC#8 .cpxAbs 4 (reads .abs cpxEffect) ∧
  ByteForm 0xC0#8 .cpyImm 2 cpyEffect ∧
  ByteForm 0xC4#8 .cpyZp 3 (reads .zp cpyEffect) ∧
  WordForm 0xCC#8 .cpyAbs 4 (reads .abs cpyEffect)

/-- ASL and LSR shift A or a byte of memory by one, the bit shifted out to C. R190, R191. -/
def Obligations.ShiftsMoveTheBitIntoCarry : Prop :=
  PlainForm 0x0A#8 .aslAcc 2 aslAccEffect ∧
  ByteForm 0x06#8 .aslZp 5 (at_ .zp aslMemEffect) ∧
  ByteForm 0x16#8 .aslZpx 6 (at_ .zpx aslMemEffect) ∧
  WordForm 0x0E#8 .aslAbs 6 (at_ .abs aslMemEffect) ∧
  WordForm 0x1E#8 .aslAbsx 7 (at_ .absx aslMemEffect) ∧
  PlainForm 0x4A#8 .lsrAcc 2 lsrAccEffect ∧
  ByteForm 0x46#8 .lsrZp 5 (at_ .zp lsrMemEffect) ∧
  ByteForm 0x56#8 .lsrZpx 6 (at_ .zpx lsrMemEffect) ∧
  WordForm 0x4E#8 .lsrAbs 6 (at_ .abs lsrMemEffect) ∧
  WordForm 0x5E#8 .lsrAbsx 7 (at_ .absx lsrMemEffect)

/-- ROL and ROR rotate A or a byte of memory through the carry by one. R192, R193. -/
def Obligations.RotatesGoThroughCarry : Prop :=
  PlainForm 0x2A#8 .rolAcc 2 rolAccEffect ∧
  ByteForm 0x26#8 .rolZp 5 (at_ .zp rolMemEffect) ∧
  ByteForm 0x36#8 .rolZpx 6 (at_ .zpx rolMemEffect) ∧
  WordForm 0x2E#8 .rolAbs 6 (at_ .abs rolMemEffect) ∧
  WordForm 0x3E#8 .rolAbsx 7 (at_ .absx rolMemEffect) ∧
  PlainForm 0x6A#8 .rorAcc 2 rorAccEffect ∧
  ByteForm 0x66#8 .rorZp 5 (at_ .zp rorMemEffect) ∧
  ByteForm 0x76#8 .rorZpx 6 (at_ .zpx rorMemEffect) ∧
  WordForm 0x6E#8 .rorAbs 6 (at_ .abs rorMemEffect) ∧
  WordForm 0x7E#8 .rorAbsx 7 (at_ .absx rorMemEffect)

/-- INC and DEC change the byte at their address by one and set Z and N. R200, R201. -/
def Obligations.MemoryCountsByOne : Prop :=
  ByteForm 0xE6#8 .incZp 5 (at_ .zp incEffect) ∧
  ByteForm 0xF6#8 .incZpx 6 (at_ .zpx incEffect) ∧
  WordForm 0xEE#8 .incAbs 6 (at_ .abs incEffect) ∧
  WordForm 0xFE#8 .incAbsx 7 (at_ .absx incEffect) ∧
  ByteForm 0xC6#8 .decZp 5 (at_ .zp decEffect) ∧
  ByteForm 0xD6#8 .decZpx 6 (at_ .zpx decEffect) ∧
  WordForm 0xCE#8 .decAbs 6 (at_ .abs decEffect) ∧
  WordForm 0xDE#8 .decAbsx 7 (at_ .absx decEffect)

/-- INX, INY, DEX and DEY change their register by one and set Z and N. R202, R203, R204, R205. -/
def Obligations.IndexRegistersCountByOne : Prop :=
  PlainForm 0xE8#8 .inx 2 (fun s t =>
    RegsAre t s.a (s.x + 1#8) s.y s.sp ∧ FlagsBecome s t (znOf (s.x + 1#8)) ∧ MemoryKept s t) ∧
  PlainForm 0xC8#8 .iny 2 (fun s t =>
    RegsAre t s.a s.x (s.y + 1#8) s.sp ∧ FlagsBecome s t (znOf (s.y + 1#8)) ∧ MemoryKept s t) ∧
  PlainForm 0xCA#8 .dex 2 (fun s t =>
    RegsAre t s.a (s.x - 1#8) s.y s.sp ∧ FlagsBecome s t (znOf (s.x - 1#8)) ∧ MemoryKept s t) ∧
  PlainForm 0x88#8 .dey 2 (fun s t =>
    RegsAre t s.a s.x (s.y - 1#8) s.sp ∧ FlagsBecome s t (znOf (s.y - 1#8)) ∧ MemoryKept s t)

/-- Each branch goes to PC + 2 + offset for 3 cycles when its condition holds, else to PC + 2 for 2. R210, R211, R212, R213, R215, R216, R217, R218. -/
def Obligations.BranchesTakeTheirCondition : Prop :=
  BranchForm 0x90#8 .bcc (fun s => !flag .carry s) ∧
  BranchForm 0xB0#8 .bcs (fun s => flag .carry s) ∧
  BranchForm 0xF0#8 .beq (fun s => flag .zero s) ∧
  BranchForm 0xD0#8 .bne (fun s => !flag .zero s) ∧
  BranchForm 0x10#8 .bpl (fun s => !flag .negative s) ∧
  BranchForm 0x50#8 .bvc (fun s => !flag .overflow s) ∧
  BranchForm 0x70#8 .bvs (fun s => flag .overflow s)

/-- BMI branches on Z clear in the SOURCE profile and on N set in the NMOS profile. R214.
The spec marks the NMOS branch of the rule `[from general knowledge, not in source]`. -/
def Obligations.BmiTestsTheProfilesFlag : Prop :=
  BranchForm 0x30#8 .bmi (fun s => if s.profile = .source then !flag .zero s else flag .negative s) ∧
  (∀ (oo : Byte) (s : State), s.profile = .source → exec (.bmi oo) s = exec (.bne oo) s)

/-- JMP sets PC to its operand, or to the pointer with the page-wrap bug. R114, R220. -/
def Obligations.JmpGoesToItsTarget : Prop :=
  (∀ w : Word, Completes [0x4C#8, loByte w, hiByte w] (.jmpAbs w) fun s t =>
    t.pc = w ∧ t.cycles = s.cycles + 3 ∧ RegsKept s t ∧ FlagsKept s t ∧ MemoryKept s t ∧ GoesOn s t) ∧
  (∀ w : Word, Completes [0x6C#8, loByte w, hiByte w] (.jmpInd w) fun s t =>
    (w.toNat % 256 ≠ 255 → t.pc.toNat = 256 * (loadByte (w + 1#16) s).toNat + (loadByte w s).toNat) ∧
    (w.toNat % 256 = 255 → t.pc.toNat = 256 * (loadByte (w &&& 0xFF00#16) s).toNat + (loadByte w s).toNat) ∧
    t.cycles = s.cycles + 5 ∧ RegsKept s t ∧ FlagsKept s t ∧ MemoryKept s t ∧ GoesOn s t)

/-- JSR pushes PC + 1 (SOURCE) or PC + 2 (NMOS), high byte first, and jumps. R221.
The spec marks the NMOS branch of the rule `[from general knowledge, not in source]`. -/
def Obligations.JsrPushesItsReturnValue : Prop :=
  ∀ w : Word, Completes [0x20#8, loByte w, hiByte w] (.jsr w) fun s t =>
    let ret := s.pc + (if s.profile = .source then 1#16 else 2#16)
    t.pc = w ∧ t.cycles = s.cycles + 6 ∧ RegsAre t s.a s.x s.y (s.sp - 2#8) ∧ FlagsKept s t ∧ GoesOn s t ∧
    loadByte (stackAddress s.sp) t = hiByte ret ∧ loadByte (stackAddress (s.sp - 1#8)) t = loByte ret ∧
    MemoryKeptOutside s t [stackAddress s.sp, stackAddress (s.sp - 1#8)]

/-- RTS pulls low then high byte and resumes at that value plus 2 (SOURCE) or 1 (NMOS). R221, R222.
The spec marks the NMOS branch of the rule `[from general knowledge, not in source]`.
The spec marks the round trip of JSR and RTS `[derived: from rules R221 and R222]`. -/
def Obligations.RtsResumesAfterThePulledValue : Prop :=
  (Completes [0x60#8] .rts fun s t =>
    t.pc.toNat = (256 * (loadByte (stackAddress (s.sp + 2#8)) s).toNat +
      (loadByte (stackAddress (s.sp + 1#8)) s).toNat + (if s.profile = .source then 2 else 1)) % 65536 ∧
    t.cycles = s.cycles + 6 ∧ RegsAre t s.a s.x s.y (s.sp + 2#8) ∧ FlagsKept s t ∧ MemoryKept s t ∧ GoesOn s t) ∧
  (∀ (w : Word) (s t u v : State), exec (.jsr w) s = .next t → u.sp = t.sp → u.profile = s.profile →
    loadByte (stackAddress s.sp) u = loadByte (stackAddress s.sp) t →
    loadByte (stackAddress (s.sp - 1#8)) u = loadByte (stackAddress (s.sp - 1#8)) t →
    exec .rts u = .next v → v.pc = s.pc + 3#16 ∧ v.sp = s.sp)

/-- RTI pulls P as PLP does, then PC low and high, with nothing added. R223.
The spec marks the NMOS branch of the rule `[from general knowledge, not in source]`. -/
def Obligations.RtiRestoresStatusAndPc : Prop :=
  Completes [0x40#8] .rti fun s t =>
    (s.profile = .source → t.p = loadByte (stackAddress (s.sp + 1#8)) s) ∧
    (s.profile = .nmos → ∀ f : Flag, flag f t =
      if f = .brk ∨ f = .unused then flag f s
      else getBit (loadByte (stackAddress (s.sp + 1#8)) s) (flagBit f)) ∧
    t.pc.toNat = 256 * (loadByte (stackAddress (s.sp + 3#8)) s).toNat +
      (loadByte (stackAddress (s.sp + 2#8)) s).toNat ∧
    t.cycles = s.cycles + 6 ∧ RegsAre t s.a s.x s.y (s.sp + 3#8) ∧ MemoryKept s t ∧ GoesOn s t

/-- CLC CLD CLI CLV SEC SED SEI write exactly their bit of P. R230, R231, R232, R233, R234, R235, R236. -/
def Obligations.FlagInstructionsWriteOneBit : Prop :=
  PlainForm 0x18#8 .clc 2 (fun s t => RegsKept s t ∧ FlagsBecome s t [(.carry, false)] ∧ MemoryKept s t) ∧
  PlainForm 0xD8#8 .cld 2 (fun s t => RegsKept s t ∧ FlagsBecome s t [(.decimal, false)] ∧ MemoryKept s t) ∧
  PlainForm 0x58#8 .cli 2 (fun s t => RegsKept s t ∧ FlagsBecome s t [(.interruptDisable, false)] ∧ MemoryKept s t) ∧
  PlainForm 0xB8#8 .clv 2 (fun s t => RegsKept s t ∧ FlagsBecome s t [(.overflow, false)] ∧ MemoryKept s t) ∧
  PlainForm 0x38#8 .sec 2 (fun s t => RegsKept s t ∧ FlagsBecome s t [(.carry, true)] ∧ MemoryKept s t) ∧
  PlainForm 0xF8#8 .sed 2 (fun s t => RegsKept s t ∧ FlagsBecome s t [(.decimal, true)] ∧ MemoryKept s t) ∧
  PlainForm 0x78#8 .sei 2 (fun s t => RegsKept s t ∧ FlagsBecome s t [(.interruptDisable, true)] ∧ MemoryKept s t)

/-- NOP advances PC by 1, charges 2 cycles and changes nothing else. R238. -/
def Obligations.NopOnlyAdvances : Prop :=
  (∀ s : State, exec .nop s = .next { s with pc := s.pc + 1#16, cycles := s.cycles + 2 }) ∧
  (∀ op b1 b2 rest, decode [op, b1, b2] = .ok (.nop, rest) ↔ op = 0xEA#8 ∧ rest = [b1, b2])

/-- BRK saves PC + 2 and P on the stack, marks P, loads PC from FFFE, charges 7 cycles and halts. R237, R304.
The spec marks the NMOS branch of the rule `[from general knowledge, not in source]`. -/
def Obligations.BrkTrapsAndHalts : Prop :=
  Completes [0x00#8] .brk fun s t =>
    RegsAre t s.a s.x s.y (s.sp - 3#8) ∧
    loadByte (stackAddress s.sp) t = hiByte (s.pc + 2#16) ∧
    loadByte (stackAddress (s.sp - 1#8)) t = loByte (s.pc + 2#16) ∧
    loadByte (stackAddress (s.sp - 2#8)) t = s.p ||| (if s.profile = .source then 0x10#8 else 0x30#8) ∧
    MemoryKeptOutside s t [stackAddress s.sp, stackAddress (s.sp - 1#8), stackAddress (s.sp - 2#8)] ∧
    (s.profile = .source → FlagsBecome s t [(.brk, true)]) ∧
    (s.profile = .nmos → FlagsBecome s t [(.brk, true), (.interruptDisable, true)]) ∧
    t.pc = wordOf (loadByte 0xFFFF#16 s) (loadByte 0xFFFE#16 s) ∧
    t.cycles = s.cycles + 7 ∧ t.run = .halted ∧ t.profile = s.profile

/-- Every store is seen by the next fetch; an instruction that overwrites its own bytes keeps those it fetched. R59, R127, 70_reset_and_hazards.md section 3.
R421 says it too, and is marked by the spec `[derived: from 20_memory.md rule R59 and 40_execution_core.md rule R127]`. -/
def Obligations.StoresAreSeenByTheNextFetch : Prop :=
  ∀ (i : Instr) (s : State), ∃ t, exec i s = .next t ∧
    (∀ a : Word, loadByte a t = byteAfter i s a) ∧
    fetchBytes t = [byteAfter i s t.pc, byteAfter i s (t.pc + 1#16), byteAfter i s (t.pc + 2#16)] ∧
    (s.run = .running → ∀ rest, decode (fetchBytes s) = .ok (i, rest) → step s = .next t)

/-- Reset: PC 8000, P 24, Cycles 0, Running, profile SOURCE. R34, R402. -/
def Obligations.ResetIsTheStartOfARun : Prop :=
  State.reset.pc = 0x8000#16 ∧ State.reset.p = 0x24#8 ∧ State.reset.cycles = 0 ∧ State.reset.run = .running ∧
  State.reset.profile = .source ∧
  (∀ f : Flag, flag f State.reset = (f == .interruptDisable || f == .unused))

/-- The program loader places an image that fits and rejects one that does not. R411. -/
def Obligations.ProgramLoaderPlacesTheImage : Prop :=
  ∀ (prog : List Byte) (base : Word) (s : State),
    (base.toNat + prog.length > 65536 → loadProgram prog base s = .error .outOfRange) ∧
    (base.toNat + prog.length ≤ 65536 → ∃ t, loadProgram prog base s = .ok t ∧
      (∀ (i : Nat) (h : i < prog.length), loadByte (BitVec.ofNat 16 (base.toNat + i)) t = prog[i]) ∧
      (∀ a : Word, a.toNat < base.toNat ∨ base.toNat + prog.length ≤ a.toNat → loadByte a t = loadByte a s) ∧
      t.pc = base ∧ RegsKept s t ∧ FlagsKept s t ∧ t.cycles = s.cycles ∧ GoesOn s t)

/-- The cartridge reader checks BadMagic, Truncated, TooLarge in that order, then places PRG-ROM. R412. -/
def Obligations.CartridgeReaderChecksThenPlaces : Prop :=
  ∀ (f : List Byte) (s : State),
    ((f.length < 16 ∨ f.take 4 ≠ [0x4E#8, 0x45#8, 0x53#8, 0x1A#8]) → loadCartridge f s = .error .badMagic) ∧
    (∀ (k : Byte) (rest : List Byte), f = [0x4E#8, 0x45#8, 0x53#8, 0x1A#8, k] ++ rest → 16 ≤ f.length →
      (f.length < 16 + k.toNat * 16384 → loadCartridge f s = .error .truncated) ∧
      (16 + k.toNat * 16384 ≤ f.length → k.toNat > 2 → loadCartridge f s = .error .tooLarge) ∧
      (16 + k.toNat * 16384 ≤ f.length → k.toNat ≤ 2 → ∃ t, loadCartridge f s = .ok t ∧
        (∀ i : Nat, i < k.toNat * 16384 → some (loadByte (BitVec.ofNat 16 (0x8000 + i)) t) = f[16 + i]?) ∧
        (k.toNat = 1 → ∀ i : Nat, i < 16384 → some (loadByte (BitVec.ofNat 16 (0xC000 + i)) t) = f[16 + i]?) ∧
        (∀ a : Word, a.toNat < 0x8000 ∨ k.toNat = 0 → loadByte a t = loadByte a s) ∧
        RegsKept s t ∧ FlagsKept s t ∧ t.cycles = s.cycles ∧ GoesOn s t))

/-- The run entry point loads, sets PC 8000 and P 24, and the loop ends Halted, Faulted or at the host's limit. R400, R401, R410, R413. -/
def Obligations.RunEntryStartsAtTheEntryPoint : Prop :=
  (∀ l : Launch, RegsAre (createState l) l.initA l.initX l.initY l.initSp ∧ (createState l).mem = l.initMem ∧
    (createState l).cycles = 0 ∧ (createState l).run = .running ∧ (createState l).profile = l.profile) ∧
  (∀ (f : List Byte) (s : State), loadImage (.cartridge f) s = loadCartridge f s) ∧
  (∀ (prog : List Byte) (base : Word) (s : State), loadImage (.program prog base) s = loadProgram prog base s) ∧
  (∀ (image : Image) (s u : State), loadImage image s = .ok u →
    runEntry image s = .ok { u with pc := 0x8000#16, p := 0x24#8 }) ∧
  (∀ (image : Image) (s : State) (e : LoadError), loadImage image s = .error e → runEntry image s = .error e) ∧
  (∀ (n : Nat) (s : State), runFromEntry n s = runSteps n { s with pc := 0x8000#16, p := 0x24#8 }) ∧
  (∀ (n : Nat) (l : Launch) (image : Image),
    (∀ u, loadImage image (createState l) = .ok u → launchRun n l image = .ok (runFromEntry n u)) ∧
    (∀ e, loadImage image (createState l) = .error e → launchRun n l image = .error e)) ∧
  (∀ (n : Nat) (prog : List Byte) (base : Word) (s : State),
    (∀ u, loadProgram prog base s = .ok u → u.pc = base ∧ runFromBase n prog base s = .ok (runSteps n u)) ∧
    (∀ e, loadProgram prog base s = .error e → runFromBase n prog base s = .error e)) ∧
  (∀ s : State, runSteps 0 s = s) ∧
  (∀ (n : Nat) (s t : State), step s = .next t → runSteps (n + 1) s = runSteps n t) ∧
  (∀ (n : Nat) (s : State), s.run ≠ .running → runSteps n s = s) ∧
  (∀ (n : Nat) (s : State), (runSteps n s).run ≠ .running ∨
    Host.Core.run Sys2Proof.core n s = .next (runSteps n s)) ∧
  (∀ (n : Nat) (s : State), ∃ k, k ≤ n ∧ Host.Core.run Sys2Proof.core k s = .next (runSteps n s)) ∧
  (∀ (n m : Nat) (s : State), (runSteps n s).run ≠ .running → runSteps (n + m) s = runSteps n s) ∧
  (∀ (n m : Nat) (s : State), runSteps (n + m) s = runSteps m (runSteps n s))

/-- What is written for an instruction assembles to it, branch offsets reach their target, and unreachable targets are refused. R80, R82, R115.
Distances modulo 65536 and the form of a line are the model's choices (log entries 13 and 17). -/
def Obligations.AssemblerAgreesWithTheEncoding : Prop :=
  (∀ (s : State) (target : Word) (oo : Byte), branchOffset s.pc target = some oo →
    relativeTarget oo s = target) ∧
  (∀ (s : State) (oo : Byte), branchOffset s.pc (relativeTarget oo s) = some oo) ∧
  (∀ site target : Word, branchOffset site target = none ↔
    ∀ oo : Byte, BitVec.ofInt 16 ((site.toNat : Int) + 2 + oo.toInt) ≠ target) ∧
  (∀ (site : Word) (i : Instr), assemble site (rowOf i).mnemonic (operandWritten site i) = some i)
end

