-- ==== Sys2Proof/Laws/Decode.lean ====
section
/-! SUPPORT. The bytes of a 16-bit value, and the decoder on the three bytes a fetch reads. -/

namespace Sys2Proof

@[simp] theorem wordOf_hiByte_loByte (w : Word) : wordOf (hiByte w) (loByte w) = w := by
  apply BitVec.eq_of_toNat_eq
  simp only [wordOf, hiByte, loByte, BitVec.toNat_append, BitVec.extractLsb'_toNat, Nat.shiftRight_zero]
  rw [← Nat.shiftLeft_add_eq_or_of_lt (Nat.mod_lt _ (by decide)), Nat.shiftLeft_eq, Nat.shiftRight_eq_div_pow]
  have := w.isLt
  omega

@[simp] theorem hiByte_wordOf (hi lo : Byte) : hiByte (wordOf hi lo) = hi := by
  apply BitVec.eq_of_toNat_eq
  simp only [wordOf, hiByte, BitVec.toNat_append, BitVec.extractLsb'_toNat]
  rw [← Nat.shiftLeft_add_eq_or_of_lt lo.isLt, Nat.shiftLeft_eq, Nat.shiftRight_eq_div_pow]
  have := lo.isLt
  have := hi.isLt
  omega

@[simp] theorem loByte_wordOf (hi lo : Byte) : loByte (wordOf hi lo) = lo := by
  apply BitVec.eq_of_toNat_eq
  simp only [wordOf, loByte, BitVec.toNat_append, BitVec.extractLsb'_toNat, Nat.shiftRight_zero]
  rw [← Nat.shiftLeft_add_eq_or_of_lt lo.isLt, Nat.shiftLeft_eq]
  have := lo.isLt
  omega

/-- Three bytes fail to decode only for an opcode without a handler. -/
theorem decode_three_error {op b1 b2 : Byte} {e : DecodeError} (h : decode [op, b1, b2] = .error e) :
    e = .unknownOpcode op := by
  unfold decode at h
  cases he : entryOf op <;> simp [he] at h
  exact h.symm

/-- Three bytes decode, whatever the operand bytes, when the opcode has a handler. -/
theorem decode_three_ok {op b1 b2 : Byte} (h : entryOf op ≠ .none) : ∃ i r, decode [op, b1, b2] = .ok (i, r) := by
  unfold decode
  cases he : entryOf op with
  | none => exact absurd he h
  | plain i => exact ⟨i, [b1, b2], by simp [he]⟩
  | byte f => exact ⟨f b1, [b2], by simp [he]⟩
  | word f => exact ⟨f (wordOf b2 b1), [], by simp [he]⟩

end Sys2Proof
end

