-- ==== Sys2Proof/Laws/Assembly.lean ====
section
/-! SUPPORT. What `build` answers, from the opcode the mnemonic and mode select and the decoder. -/

namespace Sys2Proof.Machine

/-- A mnemonic in a mode it has. -/
theorem build_eq_some {m : Mnemonic} {mode : Mode} {op : Byte} {w : Word} {i : Instr} {rest : List Byte}
    (hop : allOpcodes.find? (isOpcodeFor m mode) = some op)
    (hd : decode [op, loByte w, hiByte w] = .ok (i, rest)) : build m mode w = some i := by
  simp [build, hop, hd]

/-- A mnemonic in a mode it lacks. -/
theorem build_eq_none {m : Mnemonic} {mode : Mode} (w : Word)
    (hop : allOpcodes.find? (isOpcodeFor m mode) = none) : build m mode w = none := by
  simp [build, hop]

end Sys2Proof.Machine
end

