-- ==== Sys2Proof/Laws/State.lean ====
section
/-! SUPPORT. One lemma per field per update of `State`, so that no proof unfolds a record update. -/

namespace Sys2Proof.Machine

variable (s : State)

@[simp] theorem State.a_setA (v : Byte) : (s.setA v).a = v := rfl
@[simp] theorem State.x_setA (v : Byte) : (s.setA v).x = s.x := rfl
@[simp] theorem State.y_setA (v : Byte) : (s.setA v).y = s.y := rfl
@[simp] theorem State.sp_setA (v : Byte) : (s.setA v).sp = s.sp := rfl
@[simp] theorem State.p_setA (v : Byte) : (s.setA v).p = s.p := rfl
@[simp] theorem State.pc_setA (v : Byte) : (s.setA v).pc = s.pc := rfl
@[simp] theorem State.cycles_setA (v : Byte) : (s.setA v).cycles = s.cycles := rfl
@[simp] theorem State.mem_setA (v : Byte) : (s.setA v).mem = s.mem := rfl
@[simp] theorem State.run_setA (v : Byte) : (s.setA v).run = s.run := rfl
@[simp] theorem State.profile_setA (v : Byte) : (s.setA v).profile = s.profile := rfl

@[simp] theorem State.a_setX (v : Byte) : (s.setX v).a = s.a := rfl
@[simp] theorem State.x_setX (v : Byte) : (s.setX v).x = v := rfl
@[simp] theorem State.y_setX (v : Byte) : (s.setX v).y = s.y := rfl
@[simp] theorem State.sp_setX (v : Byte) : (s.setX v).sp = s.sp := rfl
@[simp] theorem State.p_setX (v : Byte) : (s.setX v).p = s.p := rfl
@[simp] theorem State.pc_setX (v : Byte) : (s.setX v).pc = s.pc := rfl
@[simp] theorem State.cycles_setX (v : Byte) : (s.setX v).cycles = s.cycles := rfl
@[simp] theorem State.mem_setX (v : Byte) : (s.setX v).mem = s.mem := rfl
@[simp] theorem State.run_setX (v : Byte) : (s.setX v).run = s.run := rfl
@[simp] theorem State.profile_setX (v : Byte) : (s.setX v).profile = s.profile := rfl

@[simp] theorem State.a_setY (v : Byte) : (s.setY v).a = s.a := rfl
@[simp] theorem State.x_setY (v : Byte) : (s.setY v).x = s.x := rfl
@[simp] theorem State.y_setY (v : Byte) : (s.setY v).y = v := rfl
@[simp] theorem State.sp_setY (v : Byte) : (s.setY v).sp = s.sp := rfl
@[simp] theorem State.p_setY (v : Byte) : (s.setY v).p = s.p := rfl
@[simp] theorem State.pc_setY (v : Byte) : (s.setY v).pc = s.pc := rfl
@[simp] theorem State.cycles_setY (v : Byte) : (s.setY v).cycles = s.cycles := rfl
@[simp] theorem State.mem_setY (v : Byte) : (s.setY v).mem = s.mem := rfl
@[simp] theorem State.run_setY (v : Byte) : (s.setY v).run = s.run := rfl
@[simp] theorem State.profile_setY (v : Byte) : (s.setY v).profile = s.profile := rfl

@[simp] theorem State.a_setSp (v : Byte) : (s.setSp v).a = s.a := rfl
@[simp] theorem State.x_setSp (v : Byte) : (s.setSp v).x = s.x := rfl
@[simp] theorem State.y_setSp (v : Byte) : (s.setSp v).y = s.y := rfl
@[simp] theorem State.sp_setSp (v : Byte) : (s.setSp v).sp = v := rfl
@[simp] theorem State.p_setSp (v : Byte) : (s.setSp v).p = s.p := rfl
@[simp] theorem State.pc_setSp (v : Byte) : (s.setSp v).pc = s.pc := rfl
@[simp] theorem State.cycles_setSp (v : Byte) : (s.setSp v).cycles = s.cycles := rfl
@[simp] theorem State.mem_setSp (v : Byte) : (s.setSp v).mem = s.mem := rfl
@[simp] theorem State.run_setSp (v : Byte) : (s.setSp v).run = s.run := rfl
@[simp] theorem State.profile_setSp (v : Byte) : (s.setSp v).profile = s.profile := rfl

@[simp] theorem State.a_setP (v : Byte) : (s.setP v).a = s.a := rfl
@[simp] theorem State.x_setP (v : Byte) : (s.setP v).x = s.x := rfl
@[simp] theorem State.y_setP (v : Byte) : (s.setP v).y = s.y := rfl
@[simp] theorem State.sp_setP (v : Byte) : (s.setP v).sp = s.sp := rfl
@[simp] theorem State.p_setP (v : Byte) : (s.setP v).p = v := rfl
@[simp] theorem State.pc_setP (v : Byte) : (s.setP v).pc = s.pc := rfl
@[simp] theorem State.cycles_setP (v : Byte) : (s.setP v).cycles = s.cycles := rfl
@[simp] theorem State.mem_setP (v : Byte) : (s.setP v).mem = s.mem := rfl
@[simp] theorem State.run_setP (v : Byte) : (s.setP v).run = s.run := rfl
@[simp] theorem State.profile_setP (v : Byte) : (s.setP v).profile = s.profile := rfl

@[simp] theorem State.a_setPc (v : Word) : (s.setPc v).a = s.a := rfl
@[simp] theorem State.x_setPc (v : Word) : (s.setPc v).x = s.x := rfl
@[simp] theorem State.y_setPc (v : Word) : (s.setPc v).y = s.y := rfl
@[simp] theorem State.sp_setPc (v : Word) : (s.setPc v).sp = s.sp := rfl
@[simp] theorem State.p_setPc (v : Word) : (s.setPc v).p = s.p := rfl
@[simp] theorem State.pc_setPc (v : Word) : (s.setPc v).pc = v := rfl
@[simp] theorem State.cycles_setPc (v : Word) : (s.setPc v).cycles = s.cycles := rfl
@[simp] theorem State.mem_setPc (v : Word) : (s.setPc v).mem = s.mem := rfl
@[simp] theorem State.run_setPc (v : Word) : (s.setPc v).run = s.run := rfl
@[simp] theorem State.profile_setPc (v : Word) : (s.setPc v).profile = s.profile := rfl

@[simp] theorem State.a_setCycles (v : Nat) : (s.setCycles v).a = s.a := rfl
@[simp] theorem State.x_setCycles (v : Nat) : (s.setCycles v).x = s.x := rfl
@[simp] theorem State.y_setCycles (v : Nat) : (s.setCycles v).y = s.y := rfl
@[simp] theorem State.sp_setCycles (v : Nat) : (s.setCycles v).sp = s.sp := rfl
@[simp] theorem State.p_setCycles (v : Nat) : (s.setCycles v).p = s.p := rfl
@[simp] theorem State.pc_setCycles (v : Nat) : (s.setCycles v).pc = s.pc := rfl
@[simp] theorem State.cycles_setCycles (v : Nat) : (s.setCycles v).cycles = v := rfl
@[simp] theorem State.mem_setCycles (v : Nat) : (s.setCycles v).mem = s.mem := rfl
@[simp] theorem State.run_setCycles (v : Nat) : (s.setCycles v).run = s.run := rfl
@[simp] theorem State.profile_setCycles (v : Nat) : (s.setCycles v).profile = s.profile := rfl

@[simp] theorem State.a_setMem (v : Memory) : (s.setMem v).a = s.a := rfl
@[simp] theorem State.x_setMem (v : Memory) : (s.setMem v).x = s.x := rfl
@[simp] theorem State.y_setMem (v : Memory) : (s.setMem v).y = s.y := rfl
@[simp] theorem State.sp_setMem (v : Memory) : (s.setMem v).sp = s.sp := rfl
@[simp] theorem State.p_setMem (v : Memory) : (s.setMem v).p = s.p := rfl
@[simp] theorem State.pc_setMem (v : Memory) : (s.setMem v).pc = s.pc := rfl
@[simp] theorem State.cycles_setMem (v : Memory) : (s.setMem v).cycles = s.cycles := rfl
@[simp] theorem State.mem_setMem (v : Memory) : (s.setMem v).mem = v := rfl
@[simp] theorem State.run_setMem (v : Memory) : (s.setMem v).run = s.run := rfl
@[simp] theorem State.profile_setMem (v : Memory) : (s.setMem v).profile = s.profile := rfl

@[simp] theorem State.a_setRun (v : Run) : (s.setRun v).a = s.a := rfl
@[simp] theorem State.x_setRun (v : Run) : (s.setRun v).x = s.x := rfl
@[simp] theorem State.y_setRun (v : Run) : (s.setRun v).y = s.y := rfl
@[simp] theorem State.sp_setRun (v : Run) : (s.setRun v).sp = s.sp := rfl
@[simp] theorem State.p_setRun (v : Run) : (s.setRun v).p = s.p := rfl
@[simp] theorem State.pc_setRun (v : Run) : (s.setRun v).pc = s.pc := rfl
@[simp] theorem State.cycles_setRun (v : Run) : (s.setRun v).cycles = s.cycles := rfl
@[simp] theorem State.mem_setRun (v : Run) : (s.setRun v).mem = s.mem := rfl
@[simp] theorem State.run_setRun (v : Run) : (s.setRun v).run = v := rfl
@[simp] theorem State.profile_setRun (v : Run) : (s.setRun v).profile = s.profile := rfl

/-- Two states with the same fields are the same state. -/
theorem State.eq_of_fields {s t : State} (ha : s.a = t.a) (hx : s.x = t.x) (hy : s.y = t.y)
    (hsp : s.sp = t.sp) (hp : s.p = t.p) (hpc : s.pc = t.pc) (hc : s.cycles = t.cycles)
    (hm : s.mem = t.mem) (hr : s.run = t.run) (hpr : s.profile = t.profile) : s = t := by
  cases s
  cases t
  simp_all

end Sys2Proof.Machine
end

