-- ==== Sys2Proof/Laws/Memory.lean ====
section
/-! SUPPORT. Reading after writing, and the canonical form, which every memory operation keeps. -/

namespace Sys2Proof.Machine

theorem Memory.lookup_erase (m : Memory) (a b : Nat) :
    Memory.lookup (Memory.erase m a) b = if b = a then Config.unlistedByte else Memory.lookup m b := by
  induction m with
  | nil => simp [Memory.erase, Memory.lookup]
  | cons e rest ih =>
    obtain ⟨k, v⟩ := e
    simp only [Memory.erase, Memory.lookup]
    by_cases hka : k = a
    · subst hka
      by_cases hb : b = k
      · subst hb; simpa using ih
      · simp [ih, hb, Ne.symm hb]
    · by_cases hkb : k = b
      · subst hkb; simp [Memory.lookup, hka]
      · simp [Memory.lookup, hka, hkb, ih]

theorem Memory.lookup_insert (m : Memory) (a b : Nat) (v : Byte) :
    Memory.lookup (Memory.insert m a v) b = if b = a then v else Memory.lookup m b := by
  induction m with
  | nil => simp [Memory.insert, Memory.lookup, eq_comm]
  | cons e rest ih =>
    obtain ⟨k, w⟩ := e
    simp only [Memory.insert]
    by_cases hlt : a < k
    · simp [hlt, Memory.lookup, eq_comm (a := a)]
    · by_cases heq : a = k
      · subst heq
        by_cases hb : b = a
        · subst hb; simp [Memory.lookup]
        · simp [Memory.lookup, hb, Ne.symm hb]
      · by_cases hkb : k = b
        · subst hkb; simp [hlt, heq, Memory.lookup, Ne.symm heq]
        · simp [hlt, heq, Memory.lookup, hkb, ih]

/-- A read after a write: the byte named is the one written, every other byte is as before
(20_memory.md R55, R58). -/
theorem Memory.read_write (m : Memory) (a b : Word) (v : Byte) :
    Memory.read (Memory.write m a v) b = if b = a then v else Memory.read m b := by
  have hab : b.toNat = a.toNat ↔ b = a := ⟨BitVec.eq_of_toNat_eq, by rintro rfl; rfl⟩
  unfold Memory.read Memory.write
  by_cases hv : v = Config.unlistedByte
  · simp [hv, Memory.lookup_erase, hab]
  · simp [hv, Memory.lookup_insert, hab]

@[simp] theorem Memory.read_write_same (m : Memory) (a : Word) (v : Byte) :
    Memory.read (Memory.write m a v) a = v := by simp [Memory.read_write]

theorem Memory.read_write_other (m : Memory) {a b : Word} (v : Byte) (h : b ≠ a) :
    Memory.read (Memory.write m a v) b = Memory.read m b := by simp [Memory.read_write, h]

theorem Memory.wfFrom_mono {lo lo' : Nat} (h : lo' ≤ lo) (m : Memory) (hm : Memory.wfFrom lo m) :
    Memory.wfFrom lo' m := by
  cases m with
  | nil => rfl
  | cons e rest =>
    obtain ⟨k, v⟩ := e
    simp only [Memory.wfFrom, Bool.and_eq_true, decide_eq_true_eq] at hm ⊢
    exact ⟨⟨⟨by omega, hm.1.1.2⟩, hm.1.2⟩, hm.2⟩

theorem Memory.wfFrom_erase (m : Memory) (lo a : Nat) (hm : Memory.wfFrom lo m) :
    Memory.wfFrom lo (Memory.erase m a) := by
  induction m generalizing lo with
  | nil => rfl
  | cons e rest ih =>
    obtain ⟨k, v⟩ := e
    simp only [Memory.wfFrom, Bool.and_eq_true, decide_eq_true_eq] at hm
    by_cases hka : k = a
    · simp only [Memory.erase, hka, if_true]
      exact ih lo (Memory.wfFrom_mono (by omega) rest hm.2)
    · simp only [Memory.erase, hka, if_false, Memory.wfFrom, Bool.and_eq_true, decide_eq_true_eq]
      exact ⟨hm.1, ih (k + 1) hm.2⟩

theorem Memory.wfFrom_insert (m : Memory) (lo a : Nat) (v : Byte) (hlo : lo ≤ a) (ha : a < 65536)
    (hv : v ≠ Config.unlistedByte) (hm : Memory.wfFrom lo m) : Memory.wfFrom lo (Memory.insert m a v) := by
  induction m generalizing lo with
  | nil => simp [Memory.insert, Memory.wfFrom, hlo, ha, hv]
  | cons e rest ih =>
    obtain ⟨k, w⟩ := e
    simp only [Memory.wfFrom, Bool.and_eq_true, decide_eq_true_eq] at hm
    obtain ⟨⟨⟨h1, h2⟩, h3⟩, h4⟩ := hm
    simp only [Memory.insert]
    by_cases hlt : a < k
    · simp [hlt, Memory.wfFrom, hlo, ha, hv, h2, h3, h4]
    · by_cases heq : a = k
      · subst heq
        simp [Memory.wfFrom, hlo, ha, hv, h4]
      · simp only [hlt, heq, if_false, Memory.wfFrom, Bool.and_eq_true, decide_eq_true_eq]
        exact ⟨⟨⟨h1, h2⟩, h3⟩, ih (k + 1) (by omega) h4⟩

/-- A write keeps the canonical form. -/
theorem Memory.write_wf (m : Memory) (a : Word) (v : Byte) (hm : m.wf) : (Memory.write m a v).wf := by
  unfold Memory.write Memory.wf
  split
  · exact Memory.wfFrom_erase m 0 _ hm
  · exact Memory.wfFrom_insert m 0 _ v (Nat.zero_le _) a.isLt ‹_› hm

/-- Storing bytes one after another keeps the canonical form. -/
theorem storeBytes_wf (a : Word) (bs : List Byte) (s : State) (hm : s.mem.wf) :
    (storeBytes a bs s).mem.wf := by
  induction bs generalizing a s with
  | nil => exact hm
  | cons v rest ih => exact ih (a + 1#16) (storeByte a v s) (Memory.write_wf s.mem a v hm)

/-! ## Access to the machine's memory -/

@[simp] theorem storeByte_mem (a : Word) (v : Byte) (s : State) :
    (storeByte a v s).mem = Memory.write s.mem a v := rfl

@[simp] theorem storeByte_a (a : Word) (v : Byte) (s : State) : (storeByte a v s).a = s.a := rfl
@[simp] theorem storeByte_x (a : Word) (v : Byte) (s : State) : (storeByte a v s).x = s.x := rfl
@[simp] theorem storeByte_y (a : Word) (v : Byte) (s : State) : (storeByte a v s).y = s.y := rfl
@[simp] theorem storeByte_sp (a : Word) (v : Byte) (s : State) : (storeByte a v s).sp = s.sp := rfl
@[simp] theorem storeByte_p (a : Word) (v : Byte) (s : State) : (storeByte a v s).p = s.p := rfl
@[simp] theorem storeByte_pc (a : Word) (v : Byte) (s : State) : (storeByte a v s).pc = s.pc := rfl
@[simp] theorem storeByte_cycles (a : Word) (v : Byte) (s : State) : (storeByte a v s).cycles = s.cycles := rfl
@[simp] theorem storeByte_run (a : Word) (v : Byte) (s : State) : (storeByte a v s).run = s.run := rfl
@[simp] theorem storeByte_profile (a : Word) (v : Byte) (s : State) : (storeByte a v s).profile = s.profile := rfl

@[simp] theorem flag_storeByte (f : Flag) (a : Word) (v : Byte) (s : State) :
    flag f (storeByte a v s) = flag f s := rfl

theorem loadByte_storeByte (a b : Word) (v : Byte) (s : State) :
    loadByte b (storeByte a v s) = if b = a then v else loadByte b s := Memory.read_write s.mem a b v

/-- Everything `storeBytes` does to memory, for bytes that do not run past the top: the bytes named are
the ones stored, every other byte is as before. -/
theorem loadByte_storeBytes (a b : Word) (bs : List Byte) (s : State) (h : a.toNat + bs.length ≤ 65536) :
    loadByte b (storeBytes a bs s) =
      if a.toNat ≤ b.toNat ∧ b.toNat < a.toNat + bs.length then bs.getD (b.toNat - a.toNat) 0#8
      else loadByte b s := by
  induction bs generalizing a s with
  | nil => simp [storeBytes]
  | cons v rest ih =>
    simp only [List.length_cons] at h
    cases rest with
    | nil =>
      have hab : b = a ↔ a.toNat ≤ b.toNat ∧ b.toNat < a.toNat + 1 :=
        ⟨by rintro rfl; omega, fun hb => BitVec.eq_of_toNat_eq (by omega)⟩
      by_cases hb : b = a
      · simp [storeBytes, loadByte_storeByte, hb]
      · simp only [storeBytes, loadByte_storeByte, hb, if_false]
        exact (if_neg (fun hr => hb (hab.2 hr))).symm
    | cons w more =>
      simp only [List.length_cons] at h
      have hnext : (a + 1#16).toNat = a.toNat + 1 := by
        rw [BitVec.toNat_add]; exact Nat.mod_eq_of_lt (by simp; omega)
      rw [storeBytes, ih (a + 1#16) (storeByte a v s) (by simp only [hnext, List.length_cons]; omega), hnext,
        loadByte_storeByte]
      simp only [List.length_cons]
      by_cases hb : b = a
      · subst hb; simp
      · have : b.toNat ≠ a.toNat := fun he => hb (BitVec.eq_of_toNat_eq he)
        by_cases hr : a.toNat + 1 ≤ b.toNat ∧ b.toNat < a.toNat + 1 + (more.length + 1)
        · obtain ⟨k, hk⟩ : ∃ k, b.toNat - a.toNat = k + 1 := ⟨b.toNat - a.toNat - 1, by omega⟩
          rw [if_pos hr, if_pos (by omega), hk, List.getD_cons_succ]
          congr 1; omega
        · rw [if_neg hr, if_neg hb, if_neg (by omega)]

@[simp] theorem storeBytes_a (a : Word) (bs : List Byte) (s : State) : (storeBytes a bs s).a = s.a := by
  induction bs generalizing a s with
  | nil => rfl
  | cons v rest ih => exact ih _ _

@[simp] theorem storeBytes_x (a : Word) (bs : List Byte) (s : State) : (storeBytes a bs s).x = s.x := by
  induction bs generalizing a s with
  | nil => rfl
  | cons v rest ih => exact ih _ _

@[simp] theorem storeBytes_y (a : Word) (bs : List Byte) (s : State) : (storeBytes a bs s).y = s.y := by
  induction bs generalizing a s with
  | nil => rfl
  | cons v rest ih => exact ih _ _

@[simp] theorem storeBytes_sp (a : Word) (bs : List Byte) (s : State) : (storeBytes a bs s).sp = s.sp := by
  induction bs generalizing a s with
  | nil => rfl
  | cons v rest ih => exact ih _ _

@[simp] theorem storeBytes_p (a : Word) (bs : List Byte) (s : State) : (storeBytes a bs s).p = s.p := by
  induction bs generalizing a s with
  | nil => rfl
  | cons v rest ih => exact ih _ _

@[simp] theorem storeBytes_pc (a : Word) (bs : List Byte) (s : State) : (storeBytes a bs s).pc = s.pc := by
  induction bs generalizing a s with
  | nil => rfl
  | cons v rest ih => exact ih _ _

@[simp] theorem storeBytes_cycles (a : Word) (bs : List Byte) (s : State) : (storeBytes a bs s).cycles = s.cycles := by
  induction bs generalizing a s with
  | nil => rfl
  | cons v rest ih => exact ih _ _

@[simp] theorem storeBytes_run (a : Word) (bs : List Byte) (s : State) : (storeBytes a bs s).run = s.run := by
  induction bs generalizing a s with
  | nil => rfl
  | cons v rest ih => exact ih _ _

@[simp] theorem storeBytes_profile (a : Word) (bs : List Byte) (s : State) : (storeBytes a bs s).profile = s.profile := by
  induction bs generalizing a s with
  | nil => rfl
  | cons v rest ih => exact ih _ _

/-- A byte read depends on memory alone. -/
theorem loadByte_congr {s t : State} (h : s.mem = t.mem) (a : Word) : loadByte a s = loadByte a t := by
  simp [loadByte, h]

end Sys2Proof.Machine
end

