-- ==== Sys2Proof/Laws/Operands.lean ====
section
/-! SUPPORT. What the resolver depends on, and what a store through it changes. -/

namespace Sys2Proof.Machine

/-- Zero-page addresses are below 0100 (40_execution_core.md R106 to R108). -/
theorem zeroPage_toNat (b : Byte) : (zeroPage b).toNat = b.toNat := by
  simp [zeroPage, zext16]; omega

/-- The effective address depends on X, Y, memory and the profile alone. -/
theorem effectiveAddress_congr {s t : State} (hx : s.x = t.x) (hy : s.y = t.y) (hm : s.mem = t.mem)
    (hp : s.profile = t.profile) (o : MemOperand) : effectiveAddress o s = effectiveAddress o t := by
  cases o <;> simp [effectiveAddress, zeroPagePointer, loadByte, hx, hy, hm, hp]

/-- The operand value depends on X, Y, memory and the profile alone. -/
theorem operandValue_congr {s t : State} (hx : s.x = t.x) (hy : s.y = t.y) (hm : s.mem = t.mem)
    (hp : s.profile = t.profile) (o : MemOperand) : operandValue o s = operandValue o t := by
  simp [operandValue, loadByte, effectiveAddress_congr hx hy hm hp, hm]

@[simp] theorem storeOperand_mem (o : MemOperand) (v : Byte) (s : State) :
    (storeOperand o v s).mem = Memory.write s.mem (effectiveAddress o s) v := rfl

@[simp] theorem flag_storeOperand (f : Flag) (o : MemOperand) (v : Byte) (s : State) :
    flag f (storeOperand o v s) = flag f s := rfl

@[simp] theorem storeOperand_a (o : MemOperand) (v : Byte) (s : State) : (storeOperand o v s).a = s.a := rfl
@[simp] theorem storeOperand_x (o : MemOperand) (v : Byte) (s : State) : (storeOperand o v s).x = s.x := rfl
@[simp] theorem storeOperand_y (o : MemOperand) (v : Byte) (s : State) : (storeOperand o v s).y = s.y := rfl
@[simp] theorem storeOperand_sp (o : MemOperand) (v : Byte) (s : State) : (storeOperand o v s).sp = s.sp := rfl
@[simp] theorem storeOperand_p (o : MemOperand) (v : Byte) (s : State) : (storeOperand o v s).p = s.p := rfl
@[simp] theorem storeOperand_pc (o : MemOperand) (v : Byte) (s : State) : (storeOperand o v s).pc = s.pc := rfl
@[simp] theorem storeOperand_cycles (o : MemOperand) (v : Byte) (s : State) : (storeOperand o v s).cycles = s.cycles := rfl
@[simp] theorem storeOperand_run (o : MemOperand) (v : Byte) (s : State) : (storeOperand o v s).run = s.run := rfl
@[simp] theorem storeOperand_profile (o : MemOperand) (v : Byte) (s : State) : (storeOperand o v s).profile = s.profile := rfl

end Sys2Proof.Machine
end

