-- ==== Sys2Proof/Laws/Flags.lean ====
section
/-! SUPPORT. The bit utilities and the flags of P: what a written bit reads as, and that the others stay. -/

namespace Sys2Proof.Machine

/-- `getBit` reads the bit of that number. -/
theorem getBit_eq_getLsbD (b : Byte) (pos : Fin 8) : getBit b pos = b.getLsbD pos := by
  have h : (b >>> pos.val) &&& 1#8 = (BitVec.ofBool (b.getLsbD pos)).setWidth 8 := by
    simpa using BitVec.and_one_eq_setWidth_ofBool_getLsbD (x := b >>> pos.val)
  unfold getBit
  rw [h]
  cases b.getLsbD pos <;> rfl

/-- Reading a bit after writing one (10_state.md R27). -/
theorem getBit_putBit (b : Byte) (pos q : Fin 8) (v : Bool) :
    getBit (putBit b pos v) q = if q = pos then v else getBit b q := by
  have hq := q.isLt
  have hone : (1#8 <<< pos.val).getLsbD q = decide (q = pos) := by
    revert pos q
    decide
  rw [getBit_eq_getLsbD, getBit_eq_getLsbD]
  cases v
  · simp only [putBit, clearBit, BitVec.getLsbD_and, BitVec.getLsbD_not, hone, hq, decide_true, Bool.true_and,
      Bool.false_eq_true, if_false]
    by_cases h : q = pos <;> simp [h]
  · simp only [putBit, setBit, BitVec.getLsbD_or, hone, if_true]
    by_cases h : q = pos <;> simp [h]

theorem flagBit_injective {f g : Flag} (h : flagBit f = flagBit g) : f = g := by
  revert h
  cases f <;> cases g <;> decide

/-- A written flag reads as written, and every other flag as before (10_state.md R26). -/
theorem flag_setFlag (f g : Flag) (v : Bool) (s : State) :
    flag f (setFlag g v s) = if f = g then v else flag f s := by
  have h : (flagBit f = flagBit g) ↔ f = g := ⟨flagBit_injective, by rintro rfl; rfl⟩
  simp [flag, setFlag, getBit_putBit, h]

@[simp] theorem flag_setA (f : Flag) (v : Byte) (s : State) : flag f (s.setA v) = flag f s := rfl
@[simp] theorem flag_setX (f : Flag) (v : Byte) (s : State) : flag f (s.setX v) = flag f s := rfl
@[simp] theorem flag_setY (f : Flag) (v : Byte) (s : State) : flag f (s.setY v) = flag f s := rfl
@[simp] theorem flag_setSp (f : Flag) (v : Byte) (s : State) : flag f (s.setSp v) = flag f s := rfl
@[simp] theorem flag_setPc (f : Flag) (v : Word) (s : State) : flag f (s.setPc v) = flag f s := rfl
@[simp] theorem flag_setCycles (f : Flag) (v : Nat) (s : State) : flag f (s.setCycles v) = flag f s := rfl
@[simp] theorem flag_setMem (f : Flag) (v : Memory) (s : State) : flag f (s.setMem v) = flag f s := rfl
@[simp] theorem flag_setRun (f : Flag) (v : Run) (s : State) : flag f (s.setRun v) = flag f s := rfl

@[simp] theorem setFlag_a (f : Flag) (v : Bool) (s : State) : (setFlag f v s).a = s.a := rfl
@[simp] theorem setFlag_x (f : Flag) (v : Bool) (s : State) : (setFlag f v s).x = s.x := rfl
@[simp] theorem setFlag_y (f : Flag) (v : Bool) (s : State) : (setFlag f v s).y = s.y := rfl
@[simp] theorem setFlag_sp (f : Flag) (v : Bool) (s : State) : (setFlag f v s).sp = s.sp := rfl
@[simp] theorem setFlag_pc (f : Flag) (v : Bool) (s : State) : (setFlag f v s).pc = s.pc := rfl
@[simp] theorem setFlag_cycles (f : Flag) (v : Bool) (s : State) : (setFlag f v s).cycles = s.cycles := rfl
@[simp] theorem setFlag_mem (f : Flag) (v : Bool) (s : State) : (setFlag f v s).mem = s.mem := rfl
@[simp] theorem setFlag_run (f : Flag) (v : Bool) (s : State) : (setFlag f v s).run = s.run := rfl
@[simp] theorem setFlag_profile (f : Flag) (v : Bool) (s : State) : (setFlag f v s).profile = s.profile := rfl

@[simp] theorem setZN_a (v : Byte) (s : State) : (setZN v s).a = s.a := rfl
@[simp] theorem setZN_x (v : Byte) (s : State) : (setZN v s).x = s.x := rfl
@[simp] theorem setZN_y (v : Byte) (s : State) : (setZN v s).y = s.y := rfl
@[simp] theorem setZN_sp (v : Byte) (s : State) : (setZN v s).sp = s.sp := rfl
@[simp] theorem setZN_pc (v : Byte) (s : State) : (setZN v s).pc = s.pc := rfl
@[simp] theorem setZN_cycles (v : Byte) (s : State) : (setZN v s).cycles = s.cycles := rfl
@[simp] theorem setZN_mem (v : Byte) (s : State) : (setZN v s).mem = s.mem := rfl
@[simp] theorem setZN_run (v : Byte) (s : State) : (setZN v s).run = s.run := rfl
@[simp] theorem setZN_profile (v : Byte) (s : State) : (setZN v s).profile = s.profile := rfl

@[simp] theorem setCarryFlag_a (a b : Byte) (s : State) : (setCarryFlag a b s).a = s.a := rfl
@[simp] theorem setCarryFlag_x (a b : Byte) (s : State) : (setCarryFlag a b s).x = s.x := rfl
@[simp] theorem setCarryFlag_y (a b : Byte) (s : State) : (setCarryFlag a b s).y = s.y := rfl
@[simp] theorem setCarryFlag_sp (a b : Byte) (s : State) : (setCarryFlag a b s).sp = s.sp := rfl
@[simp] theorem setCarryFlag_pc (a b : Byte) (s : State) : (setCarryFlag a b s).pc = s.pc := rfl
@[simp] theorem setCarryFlag_cycles (a b : Byte) (s : State) : (setCarryFlag a b s).cycles = s.cycles := rfl
@[simp] theorem setCarryFlag_mem (a b : Byte) (s : State) : (setCarryFlag a b s).mem = s.mem := rfl
@[simp] theorem setCarryFlag_run (a b : Byte) (s : State) : (setCarryFlag a b s).run = s.run := rfl
@[simp] theorem setCarryFlag_profile (a b : Byte) (s : State) : (setCarryFlag a b s).profile = s.profile := rfl

@[simp] theorem setOverflowAdd_a (a b : Byte) (s : State) : (setOverflowAdd a b s).a = s.a := rfl
@[simp] theorem setOverflowAdd_x (a b : Byte) (s : State) : (setOverflowAdd a b s).x = s.x := rfl
@[simp] theorem setOverflowAdd_y (a b : Byte) (s : State) : (setOverflowAdd a b s).y = s.y := rfl
@[simp] theorem setOverflowAdd_sp (a b : Byte) (s : State) : (setOverflowAdd a b s).sp = s.sp := rfl
@[simp] theorem setOverflowAdd_pc (a b : Byte) (s : State) : (setOverflowAdd a b s).pc = s.pc := rfl
@[simp] theorem setOverflowAdd_cycles (a b : Byte) (s : State) : (setOverflowAdd a b s).cycles = s.cycles := rfl
@[simp] theorem setOverflowAdd_mem (a b : Byte) (s : State) : (setOverflowAdd a b s).mem = s.mem := rfl
@[simp] theorem setOverflowAdd_run (a b : Byte) (s : State) : (setOverflowAdd a b s).run = s.run := rfl
@[simp] theorem setOverflowAdd_profile (a b : Byte) (s : State) : (setOverflowAdd a b s).profile = s.profile := rfl

@[simp] theorem setOverflowSub_a (a b : Byte) (s : State) : (setOverflowSub a b s).a = s.a := rfl
@[simp] theorem setOverflowSub_x (a b : Byte) (s : State) : (setOverflowSub a b s).x = s.x := rfl
@[simp] theorem setOverflowSub_y (a b : Byte) (s : State) : (setOverflowSub a b s).y = s.y := rfl
@[simp] theorem setOverflowSub_sp (a b : Byte) (s : State) : (setOverflowSub a b s).sp = s.sp := rfl
@[simp] theorem setOverflowSub_pc (a b : Byte) (s : State) : (setOverflowSub a b s).pc = s.pc := rfl
@[simp] theorem setOverflowSub_cycles (a b : Byte) (s : State) : (setOverflowSub a b s).cycles = s.cycles := rfl
@[simp] theorem setOverflowSub_mem (a b : Byte) (s : State) : (setOverflowSub a b s).mem = s.mem := rfl
@[simp] theorem setOverflowSub_run (a b : Byte) (s : State) : (setOverflowSub a b s).run = s.run := rfl
@[simp] theorem setOverflowSub_profile (a b : Byte) (s : State) : (setOverflowSub a b s).profile = s.profile := rfl

/-- The flags after `SetZN(v)` (40_execution_core.md R121). -/
theorem flag_setZN (f : Flag) (v : Byte) (s : State) : flag f (setZN v s) =
    (if f = .negative then getBit v 7 else if f = .zero then (v == 0#8) else flag f s) := by
  simp [setZN, setNegativeFlag, setZeroFlag, flag_setFlag]

/-- P is its eight flags. -/
theorem p_eq_of_flags {s t : State} (h : ∀ f, flag f s = flag f t) : s.p = t.p := by
  apply BitVec.eq_of_getLsbD_eq
  intro i hi
  have key : ∀ f : Flag, s.p.getLsbD (flagBit f) = t.p.getLsbD (flagBit f) := by
    intro f
    have := h f
    simpa only [flag, getBit_eq_getLsbD] using this
  interval_cases i
  · exact key .carry
  · exact key .zero
  · exact key .interruptDisable
  · exact key .decimal
  · exact key .brk
  · exact key .unused
  · exact key .overflow
  · exact key .negative

end Sys2Proof.Machine
end

