-- ==== Sys2Proof/Laws/Ops.lean ====
section
/-! SUPPORT. The stack, the end of an instruction, trap entry and the return from a trap. -/

namespace Sys2Proof.Machine

/-! ## Stack -/

@[simp] theorem push8_sp (v : Byte) (s : State) : (push8 v s).sp = s.sp - 1#8 := rfl

@[simp] theorem push8_mem (v : Byte) (s : State) :
    (push8 v s).mem = Memory.write s.mem (stackAddress s.sp) v := rfl

@[simp] theorem push8_a (v : Byte) (s : State) : (push8 v s).a = s.a := rfl
@[simp] theorem push8_x (v : Byte) (s : State) : (push8 v s).x = s.x := rfl
@[simp] theorem push8_y (v : Byte) (s : State) : (push8 v s).y = s.y := rfl
@[simp] theorem push8_p (v : Byte) (s : State) : (push8 v s).p = s.p := rfl
@[simp] theorem push8_pc (v : Byte) (s : State) : (push8 v s).pc = s.pc := rfl
@[simp] theorem push8_cycles (v : Byte) (s : State) : (push8 v s).cycles = s.cycles := rfl
@[simp] theorem push8_run (v : Byte) (s : State) : (push8 v s).run = s.run := rfl
@[simp] theorem push8_profile (v : Byte) (s : State) : (push8 v s).profile = s.profile := rfl

@[simp] theorem flag_push8 (f : Flag) (v : Byte) (s : State) : flag f (push8 v s) = flag f s := rfl

@[simp] theorem flag_pull8 (f : Flag) (s : State) : flag f (pull8 s) = flag f s := rfl

@[simp] theorem pull8_sp (s : State) : (pull8 s).sp = s.sp + 1#8 := rfl

@[simp] theorem pull8_a (s : State) : (pull8 s).a = s.a := rfl
@[simp] theorem pull8_x (s : State) : (pull8 s).x = s.x := rfl
@[simp] theorem pull8_y (s : State) : (pull8 s).y = s.y := rfl
@[simp] theorem pull8_p (s : State) : (pull8 s).p = s.p := rfl
@[simp] theorem pull8_pc (s : State) : (pull8 s).pc = s.pc := rfl
@[simp] theorem pull8_cycles (s : State) : (pull8 s).cycles = s.cycles := rfl
@[simp] theorem pull8_mem (s : State) : (pull8 s).mem = s.mem := rfl
@[simp] theorem pull8_run (s : State) : (pull8 s).run = s.run := rfl
@[simp] theorem pull8_profile (s : State) : (pull8 s).profile = s.profile := rfl

@[simp] theorem push16_sp (v : Word) (s : State) : (push16 v s).sp = s.sp - 2#8 := by
  simp [push16]; bv_omega

@[simp] theorem push16_mem (v : Word) (s : State) : (push16 v s).mem =
    Memory.write (Memory.write s.mem (stackAddress s.sp) (hiByte v)) (stackAddress (s.sp - 1#8)) (loByte v) := rfl

@[simp] theorem push16_a (v : Word) (s : State) : (push16 v s).a = s.a := rfl
@[simp] theorem push16_x (v : Word) (s : State) : (push16 v s).x = s.x := rfl
@[simp] theorem push16_y (v : Word) (s : State) : (push16 v s).y = s.y := rfl
@[simp] theorem push16_p (v : Word) (s : State) : (push16 v s).p = s.p := rfl
@[simp] theorem push16_pc (v : Word) (s : State) : (push16 v s).pc = s.pc := rfl
@[simp] theorem push16_cycles (v : Word) (s : State) : (push16 v s).cycles = s.cycles := rfl
@[simp] theorem push16_run (v : Word) (s : State) : (push16 v s).run = s.run := rfl
@[simp] theorem push16_profile (v : Word) (s : State) : (push16 v s).profile = s.profile := rfl

/-- A stack address lies in page 1 (10_state.md R28). -/
theorem stackAddress_toNat (sp : Byte) : (stackAddress sp).toNat = 256 + sp.toNat := by
  have h : ∀ b : Byte, (stackAddress b).toNat = 256 + b.toNat := by decide
  exact h sp

/-- Different stack pointers address different bytes. -/
@[simp] theorem stackAddress_inj (a b : Byte) : stackAddress a = stackAddress b ↔ a = b := by
  constructor
  · intro h
    have := congrArg BitVec.toNat h
    rw [stackAddress_toNat, stackAddress_toNat] at this
    exact BitVec.eq_of_toNat_eq (by omega)
  · rintro rfl; rfl

/-! ## The end of an instruction -/

@[simp] theorem charge_cycles (n : Nat) (s : State) : (charge n s).cycles = s.cycles + n := rfl

@[simp] theorem flag_charge (f : Flag) (n : Nat) (s : State) : flag f (charge n s) = flag f s := rfl

@[simp] theorem charge_a (n : Nat) (s : State) : (charge n s).a = s.a := rfl
@[simp] theorem charge_x (n : Nat) (s : State) : (charge n s).x = s.x := rfl
@[simp] theorem charge_y (n : Nat) (s : State) : (charge n s).y = s.y := rfl
@[simp] theorem charge_sp (n : Nat) (s : State) : (charge n s).sp = s.sp := rfl
@[simp] theorem charge_p (n : Nat) (s : State) : (charge n s).p = s.p := rfl
@[simp] theorem charge_pc (n : Nat) (s : State) : (charge n s).pc = s.pc := rfl
@[simp] theorem charge_mem (n : Nat) (s : State) : (charge n s).mem = s.mem := rfl
@[simp] theorem charge_run (n : Nat) (s : State) : (charge n s).run = s.run := rfl
@[simp] theorem charge_profile (n : Nat) (s : State) : (charge n s).profile = s.profile := rfl

/-- What `advance` answers, and all of it. -/
theorem advance_next_iff (i : Instr) (s t : State) : advance i s = .next t ↔
    t = (s.setPc (s.pc + BitVec.ofNat 16 (instrLength i))).setCycles (s.cycles + baseCycles i) := by
  constructor
  · intro h
    injection h with h
    exact h.symm
  · rintro rfl; rfl

/-- What `transfer` answers, and all of it. -/
theorem transfer_next_iff (i : Instr) (s t : State) :
    transfer i s = .next t ↔ t = s.setCycles (s.cycles + baseCycles i) := by
  constructor
  · intro h
    injection h with h
    exact h.symm
  · rintro rfl; rfl

/-! ## Exceptions -/

@[simp] theorem raiseUnknownOpcode_run (op : Byte) (addr : Word) (s : State) :
    (raiseUnknownOpcode op addr s).run = .faulted op addr := rfl

@[simp] theorem halt_run (s : State) : (halt s).run = .halted := rfl

@[simp] theorem halt_a (s : State) : (halt s).a = s.a := rfl
@[simp] theorem halt_x (s : State) : (halt s).x = s.x := rfl
@[simp] theorem halt_y (s : State) : (halt s).y = s.y := rfl
@[simp] theorem halt_sp (s : State) : (halt s).sp = s.sp := rfl
@[simp] theorem halt_p (s : State) : (halt s).p = s.p := rfl
@[simp] theorem halt_pc (s : State) : (halt s).pc = s.pc := rfl
@[simp] theorem halt_cycles (s : State) : (halt s).cycles = s.cycles := rfl
@[simp] theorem halt_mem (s : State) : (halt s).mem = s.mem := rfl
@[simp] theorem halt_profile (s : State) : (halt s).profile = s.profile := rfl

@[simp] theorem markBroken_a (s : State) : (markBroken s).a = s.a := by
  unfold markBroken; split <;> simp
@[simp] theorem markBroken_x (s : State) : (markBroken s).x = s.x := by
  unfold markBroken; split <;> simp
@[simp] theorem markBroken_y (s : State) : (markBroken s).y = s.y := by
  unfold markBroken; split <;> simp
@[simp] theorem markBroken_sp (s : State) : (markBroken s).sp = s.sp := by
  unfold markBroken; split <;> simp
@[simp] theorem markBroken_pc (s : State) : (markBroken s).pc = s.pc := by
  unfold markBroken; split <;> simp
@[simp] theorem markBroken_cycles (s : State) : (markBroken s).cycles = s.cycles := by
  unfold markBroken; split <;> simp
@[simp] theorem markBroken_mem (s : State) : (markBroken s).mem = s.mem := by
  unfold markBroken; split <;> simp
@[simp] theorem markBroken_run (s : State) : (markBroken s).run = s.run := by
  unfold markBroken; split <;> simp
@[simp] theorem markBroken_profile (s : State) : (markBroken s).profile = s.profile := by
  unfold markBroken; split <;> simp

/-- The flags after trap entry: B set, and I in the NMOS profile. -/
theorem flag_markBroken (f : Flag) (s : State) : flag f (markBroken s) =
    (if f = .brk then true else if f = .interruptDisable ∧ s.profile = .nmos then true else flag f s) := by
  cases h : s.profile <;> cases f <;> simp [markBroken, h, flag_setFlag]

@[simp] theorem takeBreak_a (s : State) : (takeBreak s).a = s.a := by simp [takeBreak]
@[simp] theorem takeBreak_x (s : State) : (takeBreak s).x = s.x := by simp [takeBreak]
@[simp] theorem takeBreak_y (s : State) : (takeBreak s).y = s.y := by simp [takeBreak]
@[simp] theorem takeBreak_cycles (s : State) : (takeBreak s).cycles = s.cycles := by simp [takeBreak]
@[simp] theorem takeBreak_run (s : State) : (takeBreak s).run = s.run := by simp [takeBreak]
@[simp] theorem takeBreak_profile (s : State) : (takeBreak s).profile = s.profile := by simp [takeBreak]

@[simp] theorem takeBreak_sp (s : State) : (takeBreak s).sp = s.sp - 3#8 := by
  simp [takeBreak]; bv_omega

@[simp] theorem pullStatus_sp (s : State) : (pullStatus s).sp = s.sp + 1#8 := rfl

@[simp] theorem pullStatus_p (s : State) : (pullStatus s).p = pulledStatus s.profile (pulled8 s) s.p := rfl

@[simp] theorem pullStatus_a (s : State) : (pullStatus s).a = s.a := rfl
@[simp] theorem pullStatus_x (s : State) : (pullStatus s).x = s.x := rfl
@[simp] theorem pullStatus_y (s : State) : (pullStatus s).y = s.y := rfl
@[simp] theorem pullStatus_pc (s : State) : (pullStatus s).pc = s.pc := rfl
@[simp] theorem pullStatus_cycles (s : State) : (pullStatus s).cycles = s.cycles := rfl
@[simp] theorem pullStatus_mem (s : State) : (pullStatus s).mem = s.mem := rfl
@[simp] theorem pullStatus_run (s : State) : (pullStatus s).run = s.run := rfl
@[simp] theorem pullStatus_profile (s : State) : (pullStatus s).profile = s.profile := rfl

@[simp] theorem returnFromTrap_sp (s : State) : (returnFromTrap s).sp = s.sp + 3#8 := by
  simp [returnFromTrap]; bv_omega

@[simp] theorem returnFromTrap_p (s : State) :
    (returnFromTrap s).p = pulledStatus s.profile (pulled8 s) s.p := rfl

@[simp] theorem returnFromTrap_a (s : State) : (returnFromTrap s).a = s.a := rfl
@[simp] theorem returnFromTrap_x (s : State) : (returnFromTrap s).x = s.x := rfl
@[simp] theorem returnFromTrap_y (s : State) : (returnFromTrap s).y = s.y := rfl
@[simp] theorem returnFromTrap_cycles (s : State) : (returnFromTrap s).cycles = s.cycles := rfl
@[simp] theorem returnFromTrap_mem (s : State) : (returnFromTrap s).mem = s.mem := rfl
@[simp] theorem returnFromTrap_run (s : State) : (returnFromTrap s).run = s.run := rfl
@[simp] theorem returnFromTrap_profile (s : State) : (returnFromTrap s).profile = s.profile := rfl

end Sys2Proof.Machine
end

