-- ==== Sys2Proof/Laws/Effects.lean ====
section
/-! SUPPORT. The fields each mnemonic's effect leaves alone, and the ones it writes. -/

namespace Sys2Proof.Machine

/-! ## Loads, transfers, logic -/

@[simp] theorem loadA_a (m : Byte) (s : State) : (loadA m s).a = m := by simp [loadA]
@[simp] theorem loadA_x (m : Byte) (s : State) : (loadA m s).x = s.x := by simp [loadA]
@[simp] theorem loadA_y (m : Byte) (s : State) : (loadA m s).y = s.y := by simp [loadA]
@[simp] theorem loadA_sp (m : Byte) (s : State) : (loadA m s).sp = s.sp := by simp [loadA]
@[simp] theorem loadA_pc (m : Byte) (s : State) : (loadA m s).pc = s.pc := by simp [loadA]
@[simp] theorem loadA_cycles (m : Byte) (s : State) : (loadA m s).cycles = s.cycles := by simp [loadA]
@[simp] theorem loadA_mem (m : Byte) (s : State) : (loadA m s).mem = s.mem := by simp [loadA]
@[simp] theorem loadA_run (m : Byte) (s : State) : (loadA m s).run = s.run := by simp [loadA]
@[simp] theorem loadA_profile (m : Byte) (s : State) : (loadA m s).profile = s.profile := by simp [loadA]

/-- The flags after a load: Z and N from the value. -/
theorem flag_loadA (f : Flag) (m : Byte) (s : State) : flag f (loadA m s) =
    (if f = .negative then getBit m 7 else if f = .zero then (m == 0#8) else flag f s) := by
  simp [loadA, flag_setZN]

@[simp] theorem loadX_x (m : Byte) (s : State) : (loadX m s).x = m := by simp [loadX]
@[simp] theorem loadX_a (m : Byte) (s : State) : (loadX m s).a = s.a := by simp [loadX]
@[simp] theorem loadX_y (m : Byte) (s : State) : (loadX m s).y = s.y := by simp [loadX]
@[simp] theorem loadX_sp (m : Byte) (s : State) : (loadX m s).sp = s.sp := by simp [loadX]
@[simp] theorem loadX_pc (m : Byte) (s : State) : (loadX m s).pc = s.pc := by simp [loadX]
@[simp] theorem loadX_cycles (m : Byte) (s : State) : (loadX m s).cycles = s.cycles := by simp [loadX]
@[simp] theorem loadX_mem (m : Byte) (s : State) : (loadX m s).mem = s.mem := by simp [loadX]
@[simp] theorem loadX_run (m : Byte) (s : State) : (loadX m s).run = s.run := by simp [loadX]
@[simp] theorem loadX_profile (m : Byte) (s : State) : (loadX m s).profile = s.profile := by simp [loadX]

/-- The flags after a load: Z and N from the value. -/
theorem flag_loadX (f : Flag) (m : Byte) (s : State) : flag f (loadX m s) =
    (if f = .negative then getBit m 7 else if f = .zero then (m == 0#8) else flag f s) := by
  simp [loadX, flag_setZN]

@[simp] theorem loadY_y (m : Byte) (s : State) : (loadY m s).y = m := by simp [loadY]
@[simp] theorem loadY_a (m : Byte) (s : State) : (loadY m s).a = s.a := by simp [loadY]
@[simp] theorem loadY_x (m : Byte) (s : State) : (loadY m s).x = s.x := by simp [loadY]
@[simp] theorem loadY_sp (m : Byte) (s : State) : (loadY m s).sp = s.sp := by simp [loadY]
@[simp] theorem loadY_pc (m : Byte) (s : State) : (loadY m s).pc = s.pc := by simp [loadY]
@[simp] theorem loadY_cycles (m : Byte) (s : State) : (loadY m s).cycles = s.cycles := by simp [loadY]
@[simp] theorem loadY_mem (m : Byte) (s : State) : (loadY m s).mem = s.mem := by simp [loadY]
@[simp] theorem loadY_run (m : Byte) (s : State) : (loadY m s).run = s.run := by simp [loadY]
@[simp] theorem loadY_profile (m : Byte) (s : State) : (loadY m s).profile = s.profile := by simp [loadY]

/-- The flags after a load: Z and N from the value. -/
theorem flag_loadY (f : Flag) (m : Byte) (s : State) : flag f (loadY m s) =
    (if f = .negative then getBit m 7 else if f = .zero then (m == 0#8) else flag f s) := by
  simp [loadY, flag_setZN]

@[simp] theorem andA_x (m : Byte) (s : State) : (andA m s).x = s.x := by simp [andA]
@[simp] theorem andA_y (m : Byte) (s : State) : (andA m s).y = s.y := by simp [andA]
@[simp] theorem andA_sp (m : Byte) (s : State) : (andA m s).sp = s.sp := by simp [andA]
@[simp] theorem andA_pc (m : Byte) (s : State) : (andA m s).pc = s.pc := by simp [andA]
@[simp] theorem andA_cycles (m : Byte) (s : State) : (andA m s).cycles = s.cycles := by simp [andA]
@[simp] theorem andA_mem (m : Byte) (s : State) : (andA m s).mem = s.mem := by simp [andA]
@[simp] theorem andA_run (m : Byte) (s : State) : (andA m s).run = s.run := by simp [andA]
@[simp] theorem andA_profile (m : Byte) (s : State) : (andA m s).profile = s.profile := by simp [andA]

@[simp] theorem orA_x (m : Byte) (s : State) : (orA m s).x = s.x := by simp [orA]
@[simp] theorem orA_y (m : Byte) (s : State) : (orA m s).y = s.y := by simp [orA]
@[simp] theorem orA_sp (m : Byte) (s : State) : (orA m s).sp = s.sp := by simp [orA]
@[simp] theorem orA_pc (m : Byte) (s : State) : (orA m s).pc = s.pc := by simp [orA]
@[simp] theorem orA_cycles (m : Byte) (s : State) : (orA m s).cycles = s.cycles := by simp [orA]
@[simp] theorem orA_mem (m : Byte) (s : State) : (orA m s).mem = s.mem := by simp [orA]
@[simp] theorem orA_run (m : Byte) (s : State) : (orA m s).run = s.run := by simp [orA]
@[simp] theorem orA_profile (m : Byte) (s : State) : (orA m s).profile = s.profile := by simp [orA]

@[simp] theorem eorA_x (m : Byte) (s : State) : (eorA m s).x = s.x := by simp [eorA]
@[simp] theorem eorA_y (m : Byte) (s : State) : (eorA m s).y = s.y := by simp [eorA]
@[simp] theorem eorA_sp (m : Byte) (s : State) : (eorA m s).sp = s.sp := by simp [eorA]
@[simp] theorem eorA_pc (m : Byte) (s : State) : (eorA m s).pc = s.pc := by simp [eorA]
@[simp] theorem eorA_cycles (m : Byte) (s : State) : (eorA m s).cycles = s.cycles := by simp [eorA]
@[simp] theorem eorA_mem (m : Byte) (s : State) : (eorA m s).mem = s.mem := by simp [eorA]
@[simp] theorem eorA_run (m : Byte) (s : State) : (eorA m s).run = s.run := by simp [eorA]
@[simp] theorem eorA_profile (m : Byte) (s : State) : (eorA m s).profile = s.profile := by simp [eorA]

@[simp] theorem testBits_a (m : Byte) (s : State) : (testBits m s).a = s.a := by simp [testBits]
@[simp] theorem testBits_x (m : Byte) (s : State) : (testBits m s).x = s.x := by simp [testBits]
@[simp] theorem testBits_y (m : Byte) (s : State) : (testBits m s).y = s.y := by simp [testBits]
@[simp] theorem testBits_sp (m : Byte) (s : State) : (testBits m s).sp = s.sp := by simp [testBits]
@[simp] theorem testBits_pc (m : Byte) (s : State) : (testBits m s).pc = s.pc := by simp [testBits]
@[simp] theorem testBits_cycles (m : Byte) (s : State) : (testBits m s).cycles = s.cycles := by simp [testBits]
@[simp] theorem testBits_mem (m : Byte) (s : State) : (testBits m s).mem = s.mem := by simp [testBits]
@[simp] theorem testBits_run (m : Byte) (s : State) : (testBits m s).run = s.run := by simp [testBits]
@[simp] theorem testBits_profile (m : Byte) (s : State) : (testBits m s).profile = s.profile := by simp [testBits]

/-- The flags after BIT. -/
theorem flag_testBits (f : Flag) (m : Byte) (s : State) : flag f (testBits m s) =
    (if f = .negative then getBit m 7 else if f = .overflow then getBit m 6
     else if f = .zero then (s.a &&& m == 0#8) else flag f s) := by
  simp [testBits, flag_setFlag]

/-! ## Arithmetic and compare -/

@[simp] theorem addOpNmos_x (m : Byte) (s : State) : (addOpNmos m s).x = s.x := by simp [addOpNmos]
@[simp] theorem addOpNmos_y (m : Byte) (s : State) : (addOpNmos m s).y = s.y := by simp [addOpNmos]
@[simp] theorem addOpNmos_sp (m : Byte) (s : State) : (addOpNmos m s).sp = s.sp := by simp [addOpNmos]
@[simp] theorem addOpNmos_pc (m : Byte) (s : State) : (addOpNmos m s).pc = s.pc := by simp [addOpNmos]
@[simp] theorem addOpNmos_cycles (m : Byte) (s : State) : (addOpNmos m s).cycles = s.cycles := by simp [addOpNmos]
@[simp] theorem addOpNmos_mem (m : Byte) (s : State) : (addOpNmos m s).mem = s.mem := by simp [addOpNmos]
@[simp] theorem addOpNmos_run (m : Byte) (s : State) : (addOpNmos m s).run = s.run := by simp [addOpNmos]
@[simp] theorem addOpNmos_profile (m : Byte) (s : State) : (addOpNmos m s).profile = s.profile := by simp [addOpNmos]

@[simp] theorem addOp_x (m : Byte) (s : State) : (addOp m s).x = s.x := by
  unfold addOp; split <;> simp
@[simp] theorem addOp_y (m : Byte) (s : State) : (addOp m s).y = s.y := by
  unfold addOp; split <;> simp
@[simp] theorem addOp_sp (m : Byte) (s : State) : (addOp m s).sp = s.sp := by
  unfold addOp; split <;> simp
@[simp] theorem addOp_pc (m : Byte) (s : State) : (addOp m s).pc = s.pc := by
  unfold addOp; split <;> simp
@[simp] theorem addOp_cycles (m : Byte) (s : State) : (addOp m s).cycles = s.cycles := by
  unfold addOp; split <;> simp
@[simp] theorem addOp_mem (m : Byte) (s : State) : (addOp m s).mem = s.mem := by
  unfold addOp; split <;> simp
@[simp] theorem addOp_run (m : Byte) (s : State) : (addOp m s).run = s.run := by
  unfold addOp; split <;> simp
@[simp] theorem addOp_profile (m : Byte) (s : State) : (addOp m s).profile = s.profile := by
  unfold addOp; split <;> simp

@[simp] theorem subOp_x (m : Byte) (s : State) : (subOp m s).x = s.x := by
  unfold subOp; split <;> simp
@[simp] theorem subOp_y (m : Byte) (s : State) : (subOp m s).y = s.y := by
  unfold subOp; split <;> simp
@[simp] theorem subOp_sp (m : Byte) (s : State) : (subOp m s).sp = s.sp := by
  unfold subOp; split <;> simp
@[simp] theorem subOp_pc (m : Byte) (s : State) : (subOp m s).pc = s.pc := by
  unfold subOp; split <;> simp
@[simp] theorem subOp_cycles (m : Byte) (s : State) : (subOp m s).cycles = s.cycles := by
  unfold subOp; split <;> simp
@[simp] theorem subOp_mem (m : Byte) (s : State) : (subOp m s).mem = s.mem := by
  unfold subOp; split <;> simp
@[simp] theorem subOp_run (m : Byte) (s : State) : (subOp m s).run = s.run := by
  unfold subOp; split <;> simp
@[simp] theorem subOp_profile (m : Byte) (s : State) : (subOp m s).profile = s.profile := by
  unfold subOp; split <;> simp

@[simp] theorem compareOp_a (r m : Byte) (s : State) : (compareOp r m s).a = s.a := by
  unfold compareOp; split <;> simp
@[simp] theorem compareOp_x (r m : Byte) (s : State) : (compareOp r m s).x = s.x := by
  unfold compareOp; split <;> simp
@[simp] theorem compareOp_y (r m : Byte) (s : State) : (compareOp r m s).y = s.y := by
  unfold compareOp; split <;> simp
@[simp] theorem compareOp_sp (r m : Byte) (s : State) : (compareOp r m s).sp = s.sp := by
  unfold compareOp; split <;> simp
@[simp] theorem compareOp_pc (r m : Byte) (s : State) : (compareOp r m s).pc = s.pc := by
  unfold compareOp; split <;> simp
@[simp] theorem compareOp_cycles (r m : Byte) (s : State) : (compareOp r m s).cycles = s.cycles := by
  unfold compareOp; split <;> simp
@[simp] theorem compareOp_mem (r m : Byte) (s : State) : (compareOp r m s).mem = s.mem := by
  unfold compareOp; split <;> simp
@[simp] theorem compareOp_run (r m : Byte) (s : State) : (compareOp r m s).run = s.run := by
  unfold compareOp; split <;> simp
@[simp] theorem compareOp_profile (r m : Byte) (s : State) : (compareOp r m s).profile = s.profile := by
  unfold compareOp; split <;> simp

/-! ## Shifts, increments -/

@[simp] theorem shiftFlags_a (c : Bool) (r : Byte) (s : State) : (shiftFlags c r s).a = s.a := by simp [shiftFlags]
@[simp] theorem shiftFlags_x (c : Bool) (r : Byte) (s : State) : (shiftFlags c r s).x = s.x := by simp [shiftFlags]
@[simp] theorem shiftFlags_y (c : Bool) (r : Byte) (s : State) : (shiftFlags c r s).y = s.y := by simp [shiftFlags]
@[simp] theorem shiftFlags_sp (c : Bool) (r : Byte) (s : State) : (shiftFlags c r s).sp = s.sp := by simp [shiftFlags]
@[simp] theorem shiftFlags_pc (c : Bool) (r : Byte) (s : State) : (shiftFlags c r s).pc = s.pc := by simp [shiftFlags]
@[simp] theorem shiftFlags_cycles (c : Bool) (r : Byte) (s : State) : (shiftFlags c r s).cycles = s.cycles := by simp [shiftFlags]
@[simp] theorem shiftFlags_mem (c : Bool) (r : Byte) (s : State) : (shiftFlags c r s).mem = s.mem := by simp [shiftFlags]
@[simp] theorem shiftFlags_run (c : Bool) (r : Byte) (s : State) : (shiftFlags c r s).run = s.run := by simp [shiftFlags]
@[simp] theorem shiftFlags_profile (c : Bool) (r : Byte) (s : State) : (shiftFlags c r s).profile = s.profile := by simp [shiftFlags]

@[simp] theorem effectiveAddress_shiftFlags (o : MemOperand) (c : Bool) (r : Byte) (s : State) :
    effectiveAddress o (shiftFlags c r s) = effectiveAddress o s := effectiveAddress_congr (by simp) (by simp) (by simp) (by simp) o

/-- The flags after a shift: C the bit shifted out, Z and N from the result. -/
theorem flag_shiftFlags (f : Flag) (c : Bool) (r : Byte) (s : State) : flag f (shiftFlags c r s) =
    (if f = .negative then getBit r 7 else if f = .zero then (r == 0#8) else if f = .carry then c
     else flag f s) := by
  simp [shiftFlags, flag_setZN, flag_setFlag]

@[simp] theorem aslAcc_x (s : State) : (aslAcc s).x = s.x := by simp [aslAcc]
@[simp] theorem aslAcc_y (s : State) : (aslAcc s).y = s.y := by simp [aslAcc]
@[simp] theorem aslAcc_sp (s : State) : (aslAcc s).sp = s.sp := by simp [aslAcc]
@[simp] theorem aslAcc_pc (s : State) : (aslAcc s).pc = s.pc := by simp [aslAcc]
@[simp] theorem aslAcc_cycles (s : State) : (aslAcc s).cycles = s.cycles := by simp [aslAcc]
@[simp] theorem aslAcc_mem (s : State) : (aslAcc s).mem = s.mem := by simp [aslAcc]
@[simp] theorem aslAcc_run (s : State) : (aslAcc s).run = s.run := by simp [aslAcc]
@[simp] theorem aslAcc_profile (s : State) : (aslAcc s).profile = s.profile := by simp [aslAcc]

@[simp] theorem aslMem_a (o : MemOperand) (s : State) : (aslMem o s).a = s.a := by simp [aslMem]
@[simp] theorem aslMem_x (o : MemOperand) (s : State) : (aslMem o s).x = s.x := by simp [aslMem]
@[simp] theorem aslMem_y (o : MemOperand) (s : State) : (aslMem o s).y = s.y := by simp [aslMem]
@[simp] theorem aslMem_sp (o : MemOperand) (s : State) : (aslMem o s).sp = s.sp := by simp [aslMem]
@[simp] theorem aslMem_pc (o : MemOperand) (s : State) : (aslMem o s).pc = s.pc := by simp [aslMem]
@[simp] theorem aslMem_cycles (o : MemOperand) (s : State) : (aslMem o s).cycles = s.cycles := by simp [aslMem]
@[simp] theorem aslMem_run (o : MemOperand) (s : State) : (aslMem o s).run = s.run := by simp [aslMem]
@[simp] theorem aslMem_profile (o : MemOperand) (s : State) : (aslMem o s).profile = s.profile := by simp [aslMem]

@[simp] theorem lsrAcc_x (s : State) : (lsrAcc s).x = s.x := by simp [lsrAcc]
@[simp] theorem lsrAcc_y (s : State) : (lsrAcc s).y = s.y := by simp [lsrAcc]
@[simp] theorem lsrAcc_sp (s : State) : (lsrAcc s).sp = s.sp := by simp [lsrAcc]
@[simp] theorem lsrAcc_pc (s : State) : (lsrAcc s).pc = s.pc := by simp [lsrAcc]
@[simp] theorem lsrAcc_cycles (s : State) : (lsrAcc s).cycles = s.cycles := by simp [lsrAcc]
@[simp] theorem lsrAcc_mem (s : State) : (lsrAcc s).mem = s.mem := by simp [lsrAcc]
@[simp] theorem lsrAcc_run (s : State) : (lsrAcc s).run = s.run := by simp [lsrAcc]
@[simp] theorem lsrAcc_profile (s : State) : (lsrAcc s).profile = s.profile := by simp [lsrAcc]

@[simp] theorem lsrMem_a (o : MemOperand) (s : State) : (lsrMem o s).a = s.a := by simp [lsrMem]
@[simp] theorem lsrMem_x (o : MemOperand) (s : State) : (lsrMem o s).x = s.x := by simp [lsrMem]
@[simp] theorem lsrMem_y (o : MemOperand) (s : State) : (lsrMem o s).y = s.y := by simp [lsrMem]
@[simp] theorem lsrMem_sp (o : MemOperand) (s : State) : (lsrMem o s).sp = s.sp := by simp [lsrMem]
@[simp] theorem lsrMem_pc (o : MemOperand) (s : State) : (lsrMem o s).pc = s.pc := by simp [lsrMem]
@[simp] theorem lsrMem_cycles (o : MemOperand) (s : State) : (lsrMem o s).cycles = s.cycles := by simp [lsrMem]
@[simp] theorem lsrMem_run (o : MemOperand) (s : State) : (lsrMem o s).run = s.run := by simp [lsrMem]
@[simp] theorem lsrMem_profile (o : MemOperand) (s : State) : (lsrMem o s).profile = s.profile := by simp [lsrMem]

@[simp] theorem rolAcc_x (s : State) : (rolAcc s).x = s.x := by simp [rolAcc]
@[simp] theorem rolAcc_y (s : State) : (rolAcc s).y = s.y := by simp [rolAcc]
@[simp] theorem rolAcc_sp (s : State) : (rolAcc s).sp = s.sp := by simp [rolAcc]
@[simp] theorem rolAcc_pc (s : State) : (rolAcc s).pc = s.pc := by simp [rolAcc]
@[simp] theorem rolAcc_cycles (s : State) : (rolAcc s).cycles = s.cycles := by simp [rolAcc]
@[simp] theorem rolAcc_mem (s : State) : (rolAcc s).mem = s.mem := by simp [rolAcc]
@[simp] theorem rolAcc_run (s : State) : (rolAcc s).run = s.run := by simp [rolAcc]
@[simp] theorem rolAcc_profile (s : State) : (rolAcc s).profile = s.profile := by simp [rolAcc]

@[simp] theorem rolMem_a (o : MemOperand) (s : State) : (rolMem o s).a = s.a := by simp [rolMem]
@[simp] theorem rolMem_x (o : MemOperand) (s : State) : (rolMem o s).x = s.x := by simp [rolMem]
@[simp] theorem rolMem_y (o : MemOperand) (s : State) : (rolMem o s).y = s.y := by simp [rolMem]
@[simp] theorem rolMem_sp (o : MemOperand) (s : State) : (rolMem o s).sp = s.sp := by simp [rolMem]
@[simp] theorem rolMem_pc (o : MemOperand) (s : State) : (rolMem o s).pc = s.pc := by simp [rolMem]
@[simp] theorem rolMem_cycles (o : MemOperand) (s : State) : (rolMem o s).cycles = s.cycles := by simp [rolMem]
@[simp] theorem rolMem_run (o : MemOperand) (s : State) : (rolMem o s).run = s.run := by simp [rolMem]
@[simp] theorem rolMem_profile (o : MemOperand) (s : State) : (rolMem o s).profile = s.profile := by simp [rolMem]

@[simp] theorem rorAcc_x (s : State) : (rorAcc s).x = s.x := by simp [rorAcc]
@[simp] theorem rorAcc_y (s : State) : (rorAcc s).y = s.y := by simp [rorAcc]
@[simp] theorem rorAcc_sp (s : State) : (rorAcc s).sp = s.sp := by simp [rorAcc]
@[simp] theorem rorAcc_pc (s : State) : (rorAcc s).pc = s.pc := by simp [rorAcc]
@[simp] theorem rorAcc_cycles (s : State) : (rorAcc s).cycles = s.cycles := by simp [rorAcc]
@[simp] theorem rorAcc_mem (s : State) : (rorAcc s).mem = s.mem := by simp [rorAcc]
@[simp] theorem rorAcc_run (s : State) : (rorAcc s).run = s.run := by simp [rorAcc]
@[simp] theorem rorAcc_profile (s : State) : (rorAcc s).profile = s.profile := by simp [rorAcc]

@[simp] theorem rorMem_a (o : MemOperand) (s : State) : (rorMem o s).a = s.a := by simp [rorMem]
@[simp] theorem rorMem_x (o : MemOperand) (s : State) : (rorMem o s).x = s.x := by simp [rorMem]
@[simp] theorem rorMem_y (o : MemOperand) (s : State) : (rorMem o s).y = s.y := by simp [rorMem]
@[simp] theorem rorMem_sp (o : MemOperand) (s : State) : (rorMem o s).sp = s.sp := by simp [rorMem]
@[simp] theorem rorMem_pc (o : MemOperand) (s : State) : (rorMem o s).pc = s.pc := by simp [rorMem]
@[simp] theorem rorMem_cycles (o : MemOperand) (s : State) : (rorMem o s).cycles = s.cycles := by simp [rorMem]
@[simp] theorem rorMem_run (o : MemOperand) (s : State) : (rorMem o s).run = s.run := by simp [rorMem]
@[simp] theorem rorMem_profile (o : MemOperand) (s : State) : (rorMem o s).profile = s.profile := by simp [rorMem]

@[simp] theorem incMem_a (o : MemOperand) (s : State) : (incMem o s).a = s.a := by simp [incMem]
@[simp] theorem incMem_x (o : MemOperand) (s : State) : (incMem o s).x = s.x := by simp [incMem]
@[simp] theorem incMem_y (o : MemOperand) (s : State) : (incMem o s).y = s.y := by simp [incMem]
@[simp] theorem incMem_sp (o : MemOperand) (s : State) : (incMem o s).sp = s.sp := by simp [incMem]
@[simp] theorem incMem_pc (o : MemOperand) (s : State) : (incMem o s).pc = s.pc := by simp [incMem]
@[simp] theorem incMem_cycles (o : MemOperand) (s : State) : (incMem o s).cycles = s.cycles := by simp [incMem]
@[simp] theorem incMem_run (o : MemOperand) (s : State) : (incMem o s).run = s.run := by simp [incMem]
@[simp] theorem incMem_profile (o : MemOperand) (s : State) : (incMem o s).profile = s.profile := by simp [incMem]

@[simp] theorem decMem_a (o : MemOperand) (s : State) : (decMem o s).a = s.a := by simp [decMem]
@[simp] theorem decMem_x (o : MemOperand) (s : State) : (decMem o s).x = s.x := by simp [decMem]
@[simp] theorem decMem_y (o : MemOperand) (s : State) : (decMem o s).y = s.y := by simp [decMem]
@[simp] theorem decMem_sp (o : MemOperand) (s : State) : (decMem o s).sp = s.sp := by simp [decMem]
@[simp] theorem decMem_pc (o : MemOperand) (s : State) : (decMem o s).pc = s.pc := by simp [decMem]
@[simp] theorem decMem_cycles (o : MemOperand) (s : State) : (decMem o s).cycles = s.cycles := by simp [decMem]
@[simp] theorem decMem_run (o : MemOperand) (s : State) : (decMem o s).run = s.run := by simp [decMem]
@[simp] theorem decMem_profile (o : MemOperand) (s : State) : (decMem o s).profile = s.profile := by simp [decMem]

@[simp] theorem iscMem_x (o : MemOperand) (s : State) : (iscMem o s).x = s.x := by simp [iscMem]
@[simp] theorem iscMem_y (o : MemOperand) (s : State) : (iscMem o s).y = s.y := by simp [iscMem]
@[simp] theorem iscMem_sp (o : MemOperand) (s : State) : (iscMem o s).sp = s.sp := by simp [iscMem]
@[simp] theorem iscMem_pc (o : MemOperand) (s : State) : (iscMem o s).pc = s.pc := by simp [iscMem]
@[simp] theorem iscMem_cycles (o : MemOperand) (s : State) : (iscMem o s).cycles = s.cycles := by simp [iscMem]
@[simp] theorem iscMem_run (o : MemOperand) (s : State) : (iscMem o s).run = s.run := by simp [iscMem]
@[simp] theorem iscMem_profile (o : MemOperand) (s : State) : (iscMem o s).profile = s.profile := by simp [iscMem]

@[simp] theorem aslMem_mem (o : MemOperand) (s : State) :
    (aslMem o s).mem = Memory.write s.mem (effectiveAddress o s) (aslOf (operandValue o s)) := by simp [aslMem, storeOperand]

@[simp] theorem lsrMem_mem (o : MemOperand) (s : State) :
    (lsrMem o s).mem = Memory.write s.mem (effectiveAddress o s) (lsrOf (operandValue o s)) := by simp [lsrMem, storeOperand]

@[simp] theorem rolMem_mem (o : MemOperand) (s : State) :
    (rolMem o s).mem = Memory.write s.mem (effectiveAddress o s) (rolOf (operandValue o s) (flag .carry s)) := by simp [rolMem, storeOperand]

@[simp] theorem rorMem_mem (o : MemOperand) (s : State) :
    (rorMem o s).mem = Memory.write s.mem (effectiveAddress o s) (rorOf (operandValue o s) (flag .carry s)) := by simp [rorMem, storeOperand]

@[simp] theorem incMem_mem (o : MemOperand) (s : State) :
    (incMem o s).mem = Memory.write s.mem (effectiveAddress o s) (operandValue o s + 1#8) := rfl

@[simp] theorem decMem_mem (o : MemOperand) (s : State) :
    (decMem o s).mem = Memory.write s.mem (effectiveAddress o s) (operandValue o s - 1#8) := rfl

@[simp] theorem iscMem_mem (o : MemOperand) (s : State) :
    (iscMem o s).mem = Memory.write s.mem (effectiveAddress o s) (operandValue o s + 1#8) := by simp [iscMem, storeOperand]

/-! ## Jumps, trap entry -/

@[simp] theorem callSubroutine_mem (t : Word) (s : State) :
    (callSubroutine t s).mem = (push16 (s.pc + returnOffset s.profile) s).mem := rfl

@[simp] theorem takeBreak_mem (s : State) : (takeBreak s).mem =
    Memory.write (push16 (s.pc + 2#16) s).mem (stackAddress (s.sp - 2#8)) (brokenStatus s.profile s.p) := by
  simp [takeBreak]

@[simp] theorem callSubroutine_a (t : Word) (s : State) : (callSubroutine t s).a = s.a := by simp [callSubroutine]
@[simp] theorem callSubroutine_x (t : Word) (s : State) : (callSubroutine t s).x = s.x := by simp [callSubroutine]
@[simp] theorem callSubroutine_y (t : Word) (s : State) : (callSubroutine t s).y = s.y := by simp [callSubroutine]
@[simp] theorem callSubroutine_p (t : Word) (s : State) : (callSubroutine t s).p = s.p := by simp [callSubroutine]
@[simp] theorem callSubroutine_cycles (t : Word) (s : State) : (callSubroutine t s).cycles = s.cycles := by simp [callSubroutine]
@[simp] theorem callSubroutine_run (t : Word) (s : State) : (callSubroutine t s).run = s.run := by simp [callSubroutine]
@[simp] theorem callSubroutine_profile (t : Word) (s : State) : (callSubroutine t s).profile = s.profile := by simp [callSubroutine]

@[simp] theorem returnFromSubroutine_a (s : State) : (returnFromSubroutine s).a = s.a := by simp [returnFromSubroutine]
@[simp] theorem returnFromSubroutine_x (s : State) : (returnFromSubroutine s).x = s.x := by simp [returnFromSubroutine]
@[simp] theorem returnFromSubroutine_y (s : State) : (returnFromSubroutine s).y = s.y := by simp [returnFromSubroutine]
@[simp] theorem returnFromSubroutine_p (s : State) : (returnFromSubroutine s).p = s.p := by simp [returnFromSubroutine]
@[simp] theorem returnFromSubroutine_cycles (s : State) : (returnFromSubroutine s).cycles = s.cycles := by simp [returnFromSubroutine]
@[simp] theorem returnFromSubroutine_mem (s : State) : (returnFromSubroutine s).mem = s.mem := by simp [returnFromSubroutine]
@[simp] theorem returnFromSubroutine_run (s : State) : (returnFromSubroutine s).run = s.run := by simp [returnFromSubroutine]
@[simp] theorem returnFromSubroutine_profile (s : State) : (returnFromSubroutine s).profile = s.profile := by simp [returnFromSubroutine]

/-- A branch always answers a next state: taken with one cycle more, or not taken. -/
theorem branch_next (i : Instr) (c : Bool) (oo : Byte) (s : State) :
    branch i c oo s = .next (charge (baseCycles i) (if c then charge 1 (s.setPc (relativeTarget oo s))
      else s.setPc (s.pc + BitVec.ofNat 16 (instrLength i)))) := by
  cases c <;> rfl

end Sys2Proof.Machine
end

