-- ==== Sys2Proof/Laws/Launch.lean ====
section
/-! SUPPORT. What entering a run changes, and what the loaders leave alone. -/

namespace Sys2Proof.Machine

@[simp] theorem enterRun_pc (s : State) : (enterRun s).pc = 0x8000#16 := rfl
@[simp] theorem enterRun_p (s : State) : (enterRun s).p = 0x24#8 := rfl
@[simp] theorem enterRun_a (s : State) : (enterRun s).a = s.a := rfl
@[simp] theorem enterRun_x (s : State) : (enterRun s).x = s.x := rfl
@[simp] theorem enterRun_y (s : State) : (enterRun s).y = s.y := rfl
@[simp] theorem enterRun_sp (s : State) : (enterRun s).sp = s.sp := rfl
@[simp] theorem enterRun_cycles (s : State) : (enterRun s).cycles = s.cycles := rfl
@[simp] theorem enterRun_mem (s : State) : (enterRun s).mem = s.mem := rfl
@[simp] theorem enterRun_run (s : State) : (enterRun s).run = s.run := rfl
@[simp] theorem enterRun_profile (s : State) : (enterRun s).profile = s.profile := rfl

/-- Everything the program image loader can answer (R411). -/
theorem loadProgram_eq (prog : List Byte) (base : Word) (s : State) : loadProgram prog base s =
    if base.toNat + prog.length ≤ 65536 then .ok ((storeBytes base prog s).setPc base)
    else .error .outOfRange := by
  simp [loadProgram, imageFits]

/-- A step answers a next state only while the run is Running (R100). -/
theorem running_of_step {s t : State} (h : step s = .next t) : s.run = .running := by
  unfold step at h
  split at h
  · assumption
  · cases h
  · cases h

/-- The host's run of `n + 1` steps begins with a step. -/
theorem core_run_of_step {s t : State} (h : step s = .next t) (n : Nat) :
    Host.Core.run Sys2Proof.core (n + 1) s = Host.Core.run Sys2Proof.core n t := by
  have hc : Sys2Proof.core.step s = .next t := h
  simp only [Host.Core.run]
  split
  · rename_i u hu
    rw [hc] at hu
    injection hu with hu
    rw [hu]
  · rename_i hu; rw [hc] at hu; cases hu
  · rename_i hu; rw [hc] at hu; cases hu
end Sys2Proof.Machine
end

