-- ==== Sys2Proof/Laws/PerInstr.lean ====
section
/-! SUPPORT. Statements about every instruction, one lemma per constructor of `Instr`. -/

namespace Sys2Proof.Laws.EncodingLength

/-- The encoding has the length the row gives: one byte and the operand bytes of its mode (30_encoding.md
R71). -/
def Statement (i : Instr) : Prop := (encode i).length = instrLength i

theorem ldaImm (ii : Byte) : Statement (.ldaImm ii) := rfl
theorem ldaZp (zz : Byte) : Statement (.ldaZp zz) := rfl
theorem ldaZpx (zz : Byte) : Statement (.ldaZpx zz) := rfl
theorem ldaAbs (hhll : Word) : Statement (.ldaAbs hhll) := rfl
theorem ldaAbsx (hhll : Word) : Statement (.ldaAbsx hhll) := rfl
theorem ldaAbsy (hhll : Word) : Statement (.ldaAbsy hhll) := rfl
theorem ldaIndx (zz : Byte) : Statement (.ldaIndx zz) := rfl
theorem ldaIndy (zz : Byte) : Statement (.ldaIndy zz) := rfl
theorem ldxImm (ii : Byte) : Statement (.ldxImm ii) := rfl
theorem ldxZp (zz : Byte) : Statement (.ldxZp zz) := rfl
theorem ldxZpy (zz : Byte) : Statement (.ldxZpy zz) := rfl
theorem ldxAbs (hhll : Word) : Statement (.ldxAbs hhll) := rfl
theorem ldxAbsy (hhll : Word) : Statement (.ldxAbsy hhll) := rfl
theorem ldyImm (ii : Byte) : Statement (.ldyImm ii) := rfl
theorem ldyZp (zz : Byte) : Statement (.ldyZp zz) := rfl
theorem ldyZpx (zz : Byte) : Statement (.ldyZpx zz) := rfl
theorem ldyAbs (hhll : Word) : Statement (.ldyAbs hhll) := rfl
theorem ldyAbsx (hhll : Word) : Statement (.ldyAbsx hhll) := rfl
theorem staZp (zz : Byte) : Statement (.staZp zz) := rfl
theorem staZpx (zz : Byte) : Statement (.staZpx zz) := rfl
theorem staAbs (hhll : Word) : Statement (.staAbs hhll) := rfl
theorem staAbsx (hhll : Word) : Statement (.staAbsx hhll) := rfl
theorem staAbsy (hhll : Word) : Statement (.staAbsy hhll) := rfl
theorem staIndx (zz : Byte) : Statement (.staIndx zz) := rfl
theorem staIndy (zz : Byte) : Statement (.staIndy zz) := rfl
theorem stxZp (zz : Byte) : Statement (.stxZp zz) := rfl
theorem stxZpy (zz : Byte) : Statement (.stxZpy zz) := rfl
theorem stxAbs (hhll : Word) : Statement (.stxAbs hhll) := rfl
theorem styZp (zz : Byte) : Statement (.styZp zz) := rfl
theorem styZpx (zz : Byte) : Statement (.styZpx zz) := rfl
theorem styAbs (hhll : Word) : Statement (.styAbs hhll) := rfl
theorem tax : Statement (.tax) := rfl
theorem tay : Statement (.tay) := rfl
theorem tsx : Statement (.tsx) := rfl
theorem txa : Statement (.txa) := rfl
theorem txs : Statement (.txs) := rfl
theorem tya : Statement (.tya) := rfl
theorem pha : Statement (.pha) := rfl
theorem php : Statement (.php) := rfl
theorem pla : Statement (.pla) := rfl
theorem plp : Statement (.plp) := rfl
theorem andImm (ii : Byte) : Statement (.andImm ii) := rfl
theorem andZp (zz : Byte) : Statement (.andZp zz) := rfl
theorem andZpx (zz : Byte) : Statement (.andZpx zz) := rfl
theorem andAbs (hhll : Word) : Statement (.andAbs hhll) := rfl
theorem andAbsx (hhll : Word) : Statement (.andAbsx hhll) := rfl
theorem andAbsy (hhll : Word) : Statement (.andAbsy hhll) := rfl
theorem andIndx (zz : Byte) : Statement (.andIndx zz) := rfl
theorem andIndy (zz : Byte) : Statement (.andIndy zz) := rfl
theorem oraImm (ii : Byte) : Statement (.oraImm ii) := rfl
theorem oraZp (zz : Byte) : Statement (.oraZp zz) := rfl
theorem oraZpx (zz : Byte) : Statement (.oraZpx zz) := rfl
theorem oraAbs (hhll : Word) : Statement (.oraAbs hhll) := rfl
theorem oraAbsx (hhll : Word) : Statement (.oraAbsx hhll) := rfl
theorem oraAbsy (hhll : Word) : Statement (.oraAbsy hhll) := rfl
theorem oraIndx (zz : Byte) : Statement (.oraIndx zz) := rfl
theorem oraIndy (zz : Byte) : Statement (.oraIndy zz) := rfl
theorem eorImm (ii : Byte) : Statement (.eorImm ii) := rfl
theorem eorZp (zz : Byte) : Statement (.eorZp zz) := rfl
theorem eorZpx (zz : Byte) : Statement (.eorZpx zz) := rfl
theorem eorAbs (hhll : Word) : Statement (.eorAbs hhll) := rfl
theorem eorAbsx (hhll : Word) : Statement (.eorAbsx hhll) := rfl
theorem eorAbsy (hhll : Word) : Statement (.eorAbsy hhll) := rfl
theorem eorIndx (zz : Byte) : Statement (.eorIndx zz) := rfl
theorem eorIndy (zz : Byte) : Statement (.eorIndy zz) := rfl
theorem bitZp (zz : Byte) : Statement (.bitZp zz) := rfl
theorem bitAbs (hhll : Word) : Statement (.bitAbs hhll) := rfl
theorem adcImm (ii : Byte) : Statement (.adcImm ii) := rfl
theorem adcZp (zz : Byte) : Statement (.adcZp zz) := rfl
theorem adcZpx (zz : Byte) : Statement (.adcZpx zz) := rfl
theorem adcAbs (hhll : Word) : Statement (.adcAbs hhll) := rfl
theorem adcAbsx (hhll : Word) : Statement (.adcAbsx hhll) := rfl
theorem adcAbsy (hhll : Word) : Statement (.adcAbsy hhll) := rfl
theorem adcIndx (zz : Byte) : Statement (.adcIndx zz) := rfl
theorem adcIndy (zz : Byte) : Statement (.adcIndy zz) := rfl
theorem sbcImm (ii : Byte) : Statement (.sbcImm ii) := rfl
theorem sbcZp (zz : Byte) : Statement (.sbcZp zz) := rfl
theorem sbcZpx (zz : Byte) : Statement (.sbcZpx zz) := rfl
theorem sbcAbs (hhll : Word) : Statement (.sbcAbs hhll) := rfl
theorem sbcAbsx (hhll : Word) : Statement (.sbcAbsx hhll) := rfl
theorem sbcAbsy (hhll : Word) : Statement (.sbcAbsy hhll) := rfl
theorem sbcIndx (zz : Byte) : Statement (.sbcIndx zz) := rfl
theorem sbcIndy (zz : Byte) : Statement (.sbcIndy zz) := rfl
theorem iscZp (zz : Byte) : Statement (.iscZp zz) := rfl
theorem iscZpx (zz : Byte) : Statement (.iscZpx zz) := rfl
theorem iscAbs (hhll : Word) : Statement (.iscAbs hhll) := rfl
theorem iscAbsx (hhll : Word) : Statement (.iscAbsx hhll) := rfl
theorem iscAbsy (hhll : Word) : Statement (.iscAbsy hhll) := rfl
theorem iscIndx (zz : Byte) : Statement (.iscIndx zz) := rfl
theorem iscIndy (zz : Byte) : Statement (.iscIndy zz) := rfl
theorem cmpImm (ii : Byte) : Statement (.cmpImm ii) := rfl
theorem cmpZp (zz : Byte) : Statement (.cmpZp zz) := rfl
theorem cmpZpx (zz : Byte) : Statement (.cmpZpx zz) := rfl
theorem cmpAbs (hhll : Word) : Statement (.cmpAbs hhll) := rfl
theorem cmpAbsx (hhll : Word) : Statement (.cmpAbsx hhll) := rfl
theorem cmpAbsy (hhll : Word) : Statement (.cmpAbsy hhll) := rfl
theorem cmpIndx (zz : Byte) : Statement (.cmpIndx zz) := rfl
theorem cmpIndy (zz : Byte) : Statement (.cmpIndy zz) := rfl
theorem cpxImm (ii : Byte) : Statement (.cpxImm ii) := rfl
theorem cpxZp (zz : Byte) : Statement (.cpxZp zz) := rfl
theorem cpxAbs (hhll : Word) : Statement (.cpxAbs hhll) := rfl
theorem cpyImm (ii : Byte) : Statement (.cpyImm ii) := rfl
theorem cpyZp (zz : Byte) : Statement (.cpyZp zz) := rfl
theorem cpyAbs (hhll : Word) : Statement (.cpyAbs hhll) := rfl
theorem aslAcc : Statement (.aslAcc) := rfl
theorem aslZp (zz : Byte) : Statement (.aslZp zz) := rfl
theorem aslZpx (zz : Byte) : Statement (.aslZpx zz) := rfl
theorem aslAbs (hhll : Word) : Statement (.aslAbs hhll) := rfl
theorem aslAbsx (hhll : Word) : Statement (.aslAbsx hhll) := rfl
theorem lsrAcc : Statement (.lsrAcc) := rfl
theorem lsrZp (zz : Byte) : Statement (.lsrZp zz) := rfl
theorem lsrZpx (zz : Byte) : Statement (.lsrZpx zz) := rfl
theorem lsrAbs (hhll : Word) : Statement (.lsrAbs hhll) := rfl
theorem lsrAbsx (hhll : Word) : Statement (.lsrAbsx hhll) := rfl
theorem rolAcc : Statement (.rolAcc) := rfl
theorem rolZp (zz : Byte) : Statement (.rolZp zz) := rfl
theorem rolZpx (zz : Byte) : Statement (.rolZpx zz) := rfl
theorem rolAbs (hhll : Word) : Statement (.rolAbs hhll) := rfl
theorem rolAbsx (hhll : Word) : Statement (.rolAbsx hhll) := rfl
theorem rorAcc : Statement (.rorAcc) := rfl
theorem rorZp (zz : Byte) : Statement (.rorZp zz) := rfl
theorem rorZpx (zz : Byte) : Statement (.rorZpx zz) := rfl
theorem rorAbs (hhll : Word) : Statement (.rorAbs hhll) := rfl
theorem rorAbsx (hhll : Word) : Statement (.rorAbsx hhll) := rfl
theorem incZp (zz : Byte) : Statement (.incZp zz) := rfl
theorem incZpx (zz : Byte) : Statement (.incZpx zz) := rfl
theorem incAbs (hhll : Word) : Statement (.incAbs hhll) := rfl
theorem incAbsx (hhll : Word) : Statement (.incAbsx hhll) := rfl
theorem decZp (zz : Byte) : Statement (.decZp zz) := rfl
theorem decZpx (zz : Byte) : Statement (.decZpx zz) := rfl
theorem decAbs (hhll : Word) : Statement (.decAbs hhll) := rfl
theorem decAbsx (hhll : Word) : Statement (.decAbsx hhll) := rfl
theorem inx : Statement (.inx) := rfl
theorem iny : Statement (.iny) := rfl
theorem dex : Statement (.dex) := rfl
theorem dey : Statement (.dey) := rfl
theorem bcc (oo : Byte) : Statement (.bcc oo) := rfl
theorem bcs (oo : Byte) : Statement (.bcs oo) := rfl
theorem beq (oo : Byte) : Statement (.beq oo) := rfl
theorem bmi (oo : Byte) : Statement (.bmi oo) := rfl
theorem bne (oo : Byte) : Statement (.bne oo) := rfl
theorem bpl (oo : Byte) : Statement (.bpl oo) := rfl
theorem bvc (oo : Byte) : Statement (.bvc oo) := rfl
theorem bvs (oo : Byte) : Statement (.bvs oo) := rfl
theorem jmpAbs (hhll : Word) : Statement (.jmpAbs hhll) := rfl
theorem jmpInd (hhll : Word) : Statement (.jmpInd hhll) := rfl
theorem jsr (hhll : Word) : Statement (.jsr hhll) := rfl
theorem rts : Statement (.rts) := rfl
theorem rti : Statement (.rti) := rfl
theorem clc : Statement (.clc) := rfl
theorem cld : Statement (.cld) := rfl
theorem cli : Statement (.cli) := rfl
theorem clv : Statement (.clv) := rfl
theorem sec : Statement (.sec) := rfl
theorem sed : Statement (.sed) := rfl
theorem sei : Statement (.sei) := rfl
theorem brk : Statement (.brk) := rfl
theorem nop : Statement (.nop) := rfl

end Sys2Proof.Laws.EncodingLength
end

