-- ==== Sys2Proof/Tests/Slice0.lean ====
section
/-! SUPPORT. The model's own tests. Expected results come from the spec: words from 30_encoding.md R71 and
R74, cycles from R77, single steps from the vectors of 95_test_vectors.md (the vector's name stands in the
theorem's name). The last part shows, for each statement with hypotheses, states and operands that meet
them. -/

namespace Sys2Proof.Tests

open Sys2Proof.Machine Sys2Proof.Claims

/-! ## Well-formedness: an ill-formed term for each check -/

/-- One past the reach of a branch, on both sides (R80: -128 to +127 from the branch's end). -/
theorem test_wf_branch_out_of_reach :
    branchReaches 0x8000#16 0x8082#16 = false ∧ branchReaches 0x8000#16 0x7F81#16 = false := by decide

theorem test_wf_branch_in_reach :
    branchReaches 0x8000#16 0x8081#16 = true ∧ branchReaches 0x8000#16 0x7F82#16 = true := by decide

/-- Vectors LD2 and LD3: one byte fits at FFFF, two do not. -/
theorem test_wf_image_fits : imageFits 0xFFFF#16 1 = true ∧ imageFits 0xFFFF#16 2 = false := by decide

/-! ## Decoding: every opcode row, its bytes from R71 and R74, its cycles from R77 -/

/-- The bytes decode to the instruction, the instruction encodes to them, and it has that base cost. -/
def IsRow (bytes : List Byte) (i : Instr) (cyc : Nat) : Prop :=
  decode bytes = .ok (i, []) ∧ encode i = bytes ∧ baseCycles i = cyc ∧ instrLength i = bytes.length

theorem test_decode_row_0 :
    IsRow [0x00#8] .brk 7 ∧
    IsRow [0x01#8, 0x34#8] (.oraIndx 0x34#8) 6 ∧
    IsRow [0x05#8, 0x34#8] (.oraZp 0x34#8) 3 ∧
    IsRow [0x06#8, 0x34#8] (.aslZp 0x34#8) 5 ∧
    IsRow [0x08#8] .php 3 ∧
    IsRow [0x09#8, 0x34#8] (.oraImm 0x34#8) 2 ∧
    IsRow [0x0A#8] .aslAcc 2 ∧
    IsRow [0x0D#8, 0x34#8, 0x12#8] (.oraAbs 0x1234#16) 4 ∧
    IsRow [0x0E#8, 0x34#8, 0x12#8] (.aslAbs 0x1234#16) 6 := by
  and_intros <;> rfl

theorem test_decode_row_1 :
    IsRow [0x10#8, 0x34#8] (.bpl 0x34#8) 2 ∧
    IsRow [0x11#8, 0x34#8] (.oraIndy 0x34#8) 5 ∧
    IsRow [0x15#8, 0x34#8] (.oraZpx 0x34#8) 4 ∧
    IsRow [0x16#8, 0x34#8] (.aslZpx 0x34#8) 6 ∧
    IsRow [0x18#8] .clc 2 ∧
    IsRow [0x19#8, 0x34#8, 0x12#8] (.oraAbsy 0x1234#16) 4 ∧
    IsRow [0x1D#8, 0x34#8, 0x12#8] (.oraAbsx 0x1234#16) 4 ∧
    IsRow [0x1E#8, 0x34#8, 0x12#8] (.aslAbsx 0x1234#16) 7 := by
  and_intros <;> rfl

theorem test_decode_row_2 :
    IsRow [0x20#8, 0x34#8, 0x12#8] (.jsr 0x1234#16) 6 ∧
    IsRow [0x21#8, 0x34#8] (.andIndx 0x34#8) 6 ∧
    IsRow [0x24#8, 0x34#8] (.bitZp 0x34#8) 3 ∧
    IsRow [0x25#8, 0x34#8] (.andZp 0x34#8) 3 ∧
    IsRow [0x26#8, 0x34#8] (.rolZp 0x34#8) 5 ∧
    IsRow [0x28#8] .plp 4 ∧
    IsRow [0x29#8, 0x34#8] (.andImm 0x34#8) 2 ∧
    IsRow [0x2A#8] .rolAcc 2 ∧
    IsRow [0x2C#8, 0x34#8, 0x12#8] (.bitAbs 0x1234#16) 4 ∧
    IsRow [0x2D#8, 0x34#8, 0x12#8] (.andAbs 0x1234#16) 4 ∧
    IsRow [0x2E#8, 0x34#8, 0x12#8] (.rolAbs 0x1234#16) 6 := by
  and_intros <;> rfl

theorem test_decode_row_3 :
    IsRow [0x30#8, 0x34#8] (.bmi 0x34#8) 2 ∧
    IsRow [0x31#8, 0x34#8] (.andIndy 0x34#8) 5 ∧
    IsRow [0x35#8, 0x34#8] (.andZpx 0x34#8) 4 ∧
    IsRow [0x36#8, 0x34#8] (.rolZpx 0x34#8) 6 ∧
    IsRow [0x38#8] .sec 2 ∧
    IsRow [0x39#8, 0x34#8, 0x12#8] (.andAbsy 0x1234#16) 4 ∧
    IsRow [0x3D#8, 0x34#8, 0x12#8] (.andAbsx 0x1234#16) 4 ∧
    IsRow [0x3E#8, 0x34#8, 0x12#8] (.rolAbsx 0x1234#16) 7 := by
  and_intros <;> rfl

theorem test_decode_row_4 :
    IsRow [0x40#8] .rti 6 ∧
    IsRow [0x41#8, 0x34#8] (.eorIndx 0x34#8) 6 ∧
    IsRow [0x45#8, 0x34#8] (.eorZp 0x34#8) 3 ∧
    IsRow [0x46#8, 0x34#8] (.lsrZp 0x34#8) 5 ∧
    IsRow [0x48#8] .pha 3 ∧
    IsRow [0x49#8, 0x34#8] (.eorImm 0x34#8) 2 ∧
    IsRow [0x4A#8] .lsrAcc 2 ∧
    IsRow [0x4C#8, 0x34#8, 0x12#8] (.jmpAbs 0x1234#16) 3 ∧
    IsRow [0x4D#8, 0x34#8, 0x12#8] (.eorAbs 0x1234#16) 4 ∧
    IsRow [0x4E#8, 0x34#8, 0x12#8] (.lsrAbs 0x1234#16) 6 := by
  and_intros <;> rfl

theorem test_decode_row_5 :
    IsRow [0x50#8, 0x34#8] (.bvc 0x34#8) 2 ∧
    IsRow [0x51#8, 0x34#8] (.eorIndy 0x34#8) 5 ∧
    IsRow [0x55#8, 0x34#8] (.eorZpx 0x34#8) 4 ∧
    IsRow [0x56#8, 0x34#8] (.lsrZpx 0x34#8) 6 ∧
    IsRow [0x58#8] .cli 2 ∧
    IsRow [0x59#8, 0x34#8, 0x12#8] (.eorAbsy 0x1234#16) 4 ∧
    IsRow [0x5D#8, 0x34#8, 0x12#8] (.eorAbsx 0x1234#16) 4 ∧
    IsRow [0x5E#8, 0x34#8, 0x12#8] (.lsrAbsx 0x1234#16) 7 := by
  and_intros <;> rfl

theorem test_decode_row_6 :
    IsRow [0x60#8] .rts 6 ∧
    IsRow [0x61#8, 0x34#8] (.adcIndx 0x34#8) 6 ∧
    IsRow [0x65#8, 0x34#8] (.adcZp 0x34#8) 3 ∧
    IsRow [0x66#8, 0x34#8] (.rorZp 0x34#8) 5 ∧
    IsRow [0x68#8] .pla 4 ∧
    IsRow [0x69#8, 0x34#8] (.adcImm 0x34#8) 2 ∧
    IsRow [0x6A#8] .rorAcc 2 ∧
    IsRow [0x6C#8, 0x34#8, 0x12#8] (.jmpInd 0x1234#16) 5 ∧
    IsRow [0x6D#8, 0x34#8, 0x12#8] (.adcAbs 0x1234#16) 4 ∧
    IsRow [0x6E#8, 0x34#8, 0x12#8] (.rorAbs 0x1234#16) 6 := by
  and_intros <;> rfl

theorem test_decode_row_7 :
    IsRow [0x70#8, 0x34#8] (.bvs 0x34#8) 2 ∧
    IsRow [0x71#8, 0x34#8] (.adcIndy 0x34#8) 5 ∧
    IsRow [0x75#8, 0x34#8] (.adcZpx 0x34#8) 4 ∧
    IsRow [0x76#8, 0x34#8] (.rorZpx 0x34#8) 6 ∧
    IsRow [0x78#8] .sei 2 ∧
    IsRow [0x79#8, 0x34#8, 0x12#8] (.adcAbsy 0x1234#16) 4 ∧
    IsRow [0x7D#8, 0x34#8, 0x12#8] (.adcAbsx 0x1234#16) 4 ∧
    IsRow [0x7E#8, 0x34#8, 0x12#8] (.rorAbsx 0x1234#16) 7 := by
  and_intros <;> rfl

theorem test_decode_row_8 :
    IsRow [0x81#8, 0x34#8] (.staIndx 0x34#8) 6 ∧
    IsRow [0x84#8, 0x34#8] (.styZp 0x34#8) 3 ∧
    IsRow [0x85#8, 0x34#8] (.staZp 0x34#8) 3 ∧
    IsRow [0x86#8, 0x34#8] (.stxZp 0x34#8) 3 ∧
    IsRow [0x88#8] .dey 2 ∧
    IsRow [0x8A#8] .txa 2 ∧
    IsRow [0x8C#8, 0x34#8, 0x12#8] (.styAbs 0x1234#16) 4 ∧
    IsRow [0x8D#8, 0x34#8, 0x12#8] (.staAbs 0x1234#16) 4 ∧
    IsRow [0x8E#8, 0x34#8, 0x12#8] (.stxAbs 0x1234#16) 4 := by
  and_intros <;> rfl

theorem test_decode_row_9 :
    IsRow [0x90#8, 0x34#8] (.bcc 0x34#8) 2 ∧
    IsRow [0x91#8, 0x34#8] (.staIndy 0x34#8) 6 ∧
    IsRow [0x94#8, 0x34#8] (.styZpx 0x34#8) 4 ∧
    IsRow [0x95#8, 0x34#8] (.staZpx 0x34#8) 4 ∧
    IsRow [0x96#8, 0x34#8] (.stxZpy 0x34#8) 4 ∧
    IsRow [0x98#8] .tya 2 ∧
    IsRow [0x99#8, 0x34#8, 0x12#8] (.staAbsy 0x1234#16) 5 ∧
    IsRow [0x9A#8] .txs 2 ∧
    IsRow [0x9D#8, 0x34#8, 0x12#8] (.staAbsx 0x1234#16) 5 := by
  and_intros <;> rfl

theorem test_decode_row_A :
    IsRow [0xA0#8, 0x34#8] (.ldyImm 0x34#8) 2 ∧
    IsRow [0xA1#8, 0x34#8] (.ldaIndx 0x34#8) 6 ∧
    IsRow [0xA2#8, 0x34#8] (.ldxImm 0x34#8) 2 ∧
    IsRow [0xA4#8, 0x34#8] (.ldyZp 0x34#8) 3 ∧
    IsRow [0xA5#8, 0x34#8] (.ldaZp 0x34#8) 3 ∧
    IsRow [0xA6#8, 0x34#8] (.ldxZp 0x34#8) 3 ∧
    IsRow [0xA8#8] .tay 2 ∧
    IsRow [0xA9#8, 0x34#8] (.ldaImm 0x34#8) 2 ∧
    IsRow [0xAA#8] .tax 2 ∧
    IsRow [0xAC#8, 0x34#8, 0x12#8] (.ldyAbs 0x1234#16) 4 ∧
    IsRow [0xAD#8, 0x34#8, 0x12#8] (.ldaAbs 0x1234#16) 4 ∧
    IsRow [0xAE#8, 0x34#8, 0x12#8] (.ldxAbs 0x1234#16) 4 := by
  and_intros <;> rfl

theorem test_decode_row_B :
    IsRow [0xB0#8, 0x34#8] (.bcs 0x34#8) 2 ∧
    IsRow [0xB1#8, 0x34#8] (.ldaIndy 0x34#8) 5 ∧
    IsRow [0xB4#8, 0x34#8] (.ldyZpx 0x34#8) 4 ∧
    IsRow [0xB5#8, 0x34#8] (.ldaZpx 0x34#8) 4 ∧
    IsRow [0xB6#8, 0x34#8] (.ldxZpy 0x34#8) 4 ∧
    IsRow [0xB8#8] .clv 2 ∧
    IsRow [0xB9#8, 0x34#8, 0x12#8] (.ldaAbsy 0x1234#16) 4 ∧
    IsRow [0xBA#8] .tsx 2 ∧
    IsRow [0xBC#8, 0x34#8, 0x12#8] (.ldyAbsx 0x1234#16) 4 ∧
    IsRow [0xBD#8, 0x34#8, 0x12#8] (.ldaAbsx 0x1234#16) 4 ∧
    IsRow [0xBE#8, 0x34#8, 0x12#8] (.ldxAbsy 0x1234#16) 4 := by
  and_intros <;> rfl

theorem test_decode_row_C :
    IsRow [0xC0#8, 0x34#8] (.cpyImm 0x34#8) 2 ∧
    IsRow [0xC1#8, 0x34#8] (.cmpIndx 0x34#8) 6 ∧
    IsRow [0xC4#8, 0x34#8] (.cpyZp 0x34#8) 3 ∧
    IsRow [0xC5#8, 0x34#8] (.cmpZp 0x34#8) 3 ∧
    IsRow [0xC6#8, 0x34#8] (.decZp 0x34#8) 5 ∧
    IsRow [0xC8#8] .iny 2 ∧
    IsRow [0xC9#8, 0x34#8] (.cmpImm 0x34#8) 2 ∧
    IsRow [0xCA#8] .dex 2 ∧
    IsRow [0xCC#8, 0x34#8, 0x12#8] (.cpyAbs 0x1234#16) 4 ∧
    IsRow [0xCD#8, 0x34#8, 0x12#8] (.cmpAbs 0x1234#16) 4 ∧
    IsRow [0xCE#8, 0x34#8, 0x12#8] (.decAbs 0x1234#16) 6 := by
  and_intros <;> rfl

theorem test_decode_row_D :
    IsRow [0xD0#8, 0x34#8] (.bne 0x34#8) 2 ∧
    IsRow [0xD1#8, 0x34#8] (.cmpIndy 0x34#8) 5 ∧
    IsRow [0xD5#8, 0x34#8] (.cmpZpx 0x34#8) 4 ∧
    IsRow [0xD6#8, 0x34#8] (.decZpx 0x34#8) 6 ∧
    IsRow [0xD8#8] .cld 2 ∧
    IsRow [0xD9#8, 0x34#8, 0x12#8] (.cmpAbsy 0x1234#16) 4 ∧
    IsRow [0xDD#8, 0x34#8, 0x12#8] (.cmpAbsx 0x1234#16) 4 ∧
    IsRow [0xDE#8, 0x34#8, 0x12#8] (.decAbsx 0x1234#16) 7 := by
  and_intros <;> rfl

theorem test_decode_row_E :
    IsRow [0xE0#8, 0x34#8] (.cpxImm 0x34#8) 2 ∧
    IsRow [0xE1#8, 0x34#8] (.sbcIndx 0x34#8) 6 ∧
    IsRow [0xE3#8, 0x34#8] (.iscIndx 0x34#8) 8 ∧
    IsRow [0xE4#8, 0x34#8] (.cpxZp 0x34#8) 3 ∧
    IsRow [0xE5#8, 0x34#8] (.sbcZp 0x34#8) 3 ∧
    IsRow [0xE6#8, 0x34#8] (.incZp 0x34#8) 5 ∧
    IsRow [0xE7#8, 0x34#8] (.iscZp 0x34#8) 5 ∧
    IsRow [0xE8#8] .inx 2 ∧
    IsRow [0xE9#8, 0x34#8] (.sbcImm 0x34#8) 2 ∧
    IsRow [0xEA#8] .nop 2 ∧
    IsRow [0xEC#8, 0x34#8, 0x12#8] (.cpxAbs 0x1234#16) 4 ∧
    IsRow [0xED#8, 0x34#8, 0x12#8] (.sbcAbs 0x1234#16) 4 ∧
    IsRow [0xEE#8, 0x34#8, 0x12#8] (.incAbs 0x1234#16) 6 ∧
    IsRow [0xEF#8, 0x34#8, 0x12#8] (.iscAbs 0x1234#16) 6 := by
  and_intros <;> rfl

theorem test_decode_row_F :
    IsRow [0xF0#8, 0x34#8] (.beq 0x34#8) 2 ∧
    IsRow [0xF1#8, 0x34#8] (.sbcIndy 0x34#8) 5 ∧
    IsRow [0xF3#8, 0x34#8] (.iscIndy 0x34#8) 8 ∧
    IsRow [0xF5#8, 0x34#8] (.sbcZpx 0x34#8) 4 ∧
    IsRow [0xF6#8, 0x34#8] (.incZpx 0x34#8) 6 ∧
    IsRow [0xF7#8, 0x34#8] (.iscZpx 0x34#8) 6 ∧
    IsRow [0xF8#8] .sed 2 ∧
    IsRow [0xF9#8, 0x34#8, 0x12#8] (.sbcAbsy 0x1234#16) 4 ∧
    IsRow [0xFB#8, 0x34#8, 0x12#8] (.iscAbsy 0x1234#16) 7 ∧
    IsRow [0xFD#8, 0x34#8, 0x12#8] (.sbcAbsx 0x1234#16) 4 ∧
    IsRow [0xFE#8, 0x34#8, 0x12#8] (.incAbsx 0x1234#16) 7 ∧
    IsRow [0xFF#8, 0x34#8, 0x12#8] (.iscAbsx 0x1234#16) 7 := by
  and_intros <;> rfl

/-- R79: an opcode without a handler is refused by name, whatever follows it. -/
theorem test_decode_unknown : decode [0x02#8, 0x00#8] = .error (.unknownOpcode 0x02#8) ∧
    decode [0x80#8, 0x00#8] = .error (.unknownOpcode 0x80#8) ∧ decode [0xEB#8, 0x01#8] = .error (.unknownOpcode 0xEB#8) ∧
    decode [0xFC#8] = .error (.unknownOpcode 0xFC#8) := ⟨rfl, rfl, rfl, rfl⟩

/-- R71: an instruction whose bytes are cut off is refused by name. -/
theorem test_decode_cut_off : decode [] = .error .noByte ∧ decode [0xA9#8] = .error (.missingOperand 0xA9#8) ∧
    decode [0xAD#8, 0x34#8] = .error (.missingOperand 0xAD#8) := ⟨rfl, rfl, rfl⟩

/-- R71: JMP indirect with its operand low byte first, in the numbering of spec/opcode_table.json. -/
theorem test_decode_table_word : decodeTableWord 24 0x30FF6C = some (.jmpInd 0x30FF#16) ∧
    decodeTableWord 8 0xEA = some .nop ∧ decodeTableWord 16 0xFDD0 = some (.bne 0xFD#8) ∧
    decodeTableWord 8 0x02 = none := ⟨rfl, rfl, rfl, rfl⟩

/-! ## Single steps, from the vectors of 95_test_vectors.md -/

/-- The default start state of the vectors (95_test_vectors.md section 0). -/
def start (pr : Profile) : State := { State.reset with sp := 0xFD#8, profile := pr }

/-- Memory with these cells written. -/
def withCells (cells : List (Word × Byte)) (s : State) : State :=
  cells.foldl (fun t c => storeByte c.1 c.2 t) s

/-- One step of the instruction with these bytes at PC, the cells written first. -/
def after (bytes : List Byte) (cells : List (Word × Byte)) (s : State) : State :=
  match step (storeBytes s.pc bytes (withCells cells s)) with
  | .next t => t
  | .fault _ => s
  | .refused _ => s

theorem test_lda_AM1_source : let t := after [0xA9#8, 0x80#8] [] (start .source)
    t.a = 0x80#8 ∧ t.p = 0xA4#8 ∧ t.pc = 0x8002#16 ∧ t.cycles = 2 := by decide

theorem test_lda_AM2_nmos : let t := after [0xA5#8, 0x10#8] [(0x0010#16, 0x00#8)] { start .nmos with a := 0x55#8 }
    t.a = 0x00#8 ∧ t.p = 0x26#8 ∧ t.pc = 0x8002#16 ∧ t.cycles = 3 := by decide

theorem test_ldx_AM4_nmos : let t := after [0xB6#8, 0xF0#8] [(0x0010#16, 0x33#8)] { start .nmos with y := 0x20#8 }
    t.x = 0x33#8 ∧ t.pc = 0x8002#16 ∧ t.cycles = 4 := by decide

theorem test_lda_AM6_source : let t := after [0xBD#8, 0xFF#8, 0xFF#8] [(0x0001#16, 0x11#8)] { start .source with x := 0x02#8 }
    t.a = 0x11#8 ∧ t.pc = 0x8003#16 ∧ t.cycles = 4 := by decide

theorem test_lda_AM9_source : let t := after [0xA1#8, 0xFF#8] [(0x00FF#16, 0x34#8), (0x0000#16, 0x12#8), (0x1234#16, 0xAB#8)] { start .source with x := 0x00#8 }
    t.a = 0x34#8 ∧ t.pc = 0x8002#16 ∧ t.cycles = 6 := by decide

theorem test_lda_AM9_nmos : let t := after [0xA1#8, 0xFF#8] [(0x00FF#16, 0x34#8), (0x0000#16, 0x12#8), (0x1234#16, 0xAB#8)] { start .nmos with x := 0x00#8 }
    t.a = 0xAB#8 ∧ t.p = 0xA4#8 ∧ t.pc = 0x8002#16 ∧ t.cycles = 6 := by decide

theorem test_lda_AM11_source : let t := after [0xB1#8, 0x40#8] [(0x0040#16, 0xF0#8), (0x0041#16, 0xFF#8), (0x0010#16, 0x5C#8), (0x0060#16, 0x01#8)] { start .source with y := 0x20#8 }
    t.a = 0x01#8 ∧ t.pc = 0x8002#16 ∧ t.cycles = 5 := by decide

theorem test_lda_AM11_nmos : let t := after [0xB1#8, 0x40#8] [(0x0040#16, 0xF0#8), (0x0041#16, 0xFF#8), (0x0010#16, 0x5C#8), (0x0060#16, 0x01#8)] { start .nmos with y := 0x20#8 }
    t.a = 0x5C#8 ∧ t.pc = 0x8002#16 ∧ t.cycles = 5 := by decide

theorem test_lda_AM12_source : let t := after [0xA9#8] [(0x0000#16, 0x07#8)] { start .source with pc := 0xFFFF#16 }
    t.a = 0x07#8 ∧ t.pc = 0x0001#16 ∧ t.cycles = 2 := by decide

theorem test_ldx_LS1_source : let t := after [0xAE#8, 0x00#8, 0x02#8] [(0x0200#16, 0x00#8)] { start .source with p := 0xA5#8 }
    t.p = 0x27#8 ∧ t.pc = 0x8003#16 ∧ t.cycles = 4 := by decide

theorem test_ldy_LS2_source : let t := after [0xBC#8, 0x00#8, 0x03#8] [(0x0305#16, 0xFE#8)] { start .source with x := 0x05#8 }
    t.y = 0xFE#8 ∧ t.p = 0xA4#8 ∧ t.pc = 0x8003#16 ∧ t.cycles = 4 := by decide

theorem test_sta_LS4_source : let t := after [0x9D#8, 0xF8#8, 0x02#8] [] { start .source with a := 0x3C#8, x := 0x10#8 }
    loadByte 0x0308#16 t = 0x3C#8 ∧ t.pc = 0x8003#16 ∧ t.cycles = 5 := by decide

theorem test_sta_LS5_source : let t := after [0x91#8, 0x40#8] [(0x0040#16, 0x00#8), (0x0041#16, 0x03#8)] { start .source with a := 0x3C#8, y := 0x01#8 }
    loadByte 0x0041#16 t = 0x3C#8 ∧ t.pc = 0x8002#16 ∧ t.cycles = 6 := by decide

theorem test_sta_LS5_nmos : let t := after [0x91#8, 0x40#8] [(0x0040#16, 0x00#8), (0x0041#16, 0x03#8)] { start .nmos with a := 0x3C#8, y := 0x01#8 }
    loadByte 0x0301#16 t = 0x3C#8 ∧ t.pc = 0x8002#16 ∧ t.cycles = 6 := by decide

theorem test_stx_LS6_source : let t := after [0x96#8, 0x20#8] [] { start .source with x := 0x81#8, y := 0xF0#8 }
    loadByte 0x0010#16 t = 0x81#8 ∧ t.pc = 0x8002#16 ∧ t.cycles = 4 := by decide

theorem test_sty_LS7_source : let t := after [0x8C#8, 0x00#8, 0x04#8] [] { start .source with y := 0x7F#8 }
    loadByte 0x0400#16 t = 0x7F#8 ∧ t.pc = 0x8003#16 ∧ t.cycles = 4 := by decide

theorem test_tax_TS1_source : let t := after [0xAA#8] [] { start .source with a := 0x00#8, x := 0x12#8 }
    t.x = 0x00#8 ∧ t.p = 0x26#8 ∧ t.pc = 0x8001#16 ∧ t.cycles = 2 := by decide

theorem test_tay_TS2_source : let t := after [0xA8#8] [] { start .source with a := 0x80#8 }
    t.y = 0x80#8 ∧ t.p = 0xA4#8 ∧ t.pc = 0x8001#16 ∧ t.cycles = 2 := by decide

theorem test_tsx_TS3_source : let t := after [0xBA#8] [] { start .source with sp := 0x80#8 }
    t.x = 0x80#8 ∧ t.p = 0xA4#8 ∧ t.pc = 0x8001#16 ∧ t.cycles = 2 := by decide

theorem test_txa_TS4_source : let t := after [0x8A#8] [] { start .source with x := 0x11#8, sp := 0xFD#8 }
    t.a = 0xFD#8 ∧ t.p = 0xA4#8 ∧ t.pc = 0x8001#16 ∧ t.cycles = 2 := by decide

theorem test_txa_TS4_nmos : let t := after [0x8A#8] [] { start .nmos with x := 0x11#8, sp := 0xFD#8 }
    t.a = 0x11#8 ∧ t.pc = 0x8001#16 ∧ t.cycles = 2 := by decide

theorem test_txs_TS5_source : let t := after [0x9A#8] [] { start .source with x := 0x00#8, p := 0x24#8 }
    t.sp = 0x00#8 ∧ t.pc = 0x8001#16 ∧ t.cycles = 2 := by decide

theorem test_tya_TS6_source : let t := after [0x98#8] [] { start .source with y := 0xFF#8 }
    t.a = 0xFF#8 ∧ t.p = 0xA4#8 ∧ t.pc = 0x8001#16 ∧ t.cycles = 2 := by decide

theorem test_pha_TS7_source : let t := after [0x48#8] [] { start .source with a := 0x77#8, sp := 0x00#8 }
    t.sp = 0xFF#8 ∧ loadByte 0x0100#16 t = 0x77#8 ∧ t.pc = 0x8001#16 ∧ t.cycles = 3 := by decide

theorem test_pla_TS8_source : let t := after [0x68#8] [(0x0100#16, 0x80#8)] { start .source with sp := 0xFF#8 }
    t.a = 0x80#8 ∧ t.sp = 0x00#8 ∧ t.p = 0xA4#8 ∧ t.pc = 0x8001#16 ∧ t.cycles = 4 := by decide

theorem test_php_TS9_source : let t := after [0x08#8] [] { start .source with p := 0x24#8 }
    t.sp = 0xFC#8 ∧ loadByte 0x01FD#16 t = 0x24#8 ∧ t.pc = 0x8001#16 ∧ t.cycles = 3 := by decide

theorem test_php_TS9_nmos : let t := after [0x08#8] [] { start .nmos with p := 0x24#8 }
    t.sp = 0xFC#8 ∧ loadByte 0x01FD#16 t = 0x34#8 ∧ t.pc = 0x8001#16 ∧ t.cycles = 3 := by decide

theorem test_plp_TS11_source : let t := after [0x28#8] [(0x01FD#16, 0x10#8)] { start .source with sp := 0xFC#8, p := 0x24#8 }
    t.sp = 0xFD#8 ∧ t.p = 0x10#8 ∧ t.pc = 0x8001#16 ∧ t.cycles = 4 := by decide

theorem test_plp_TS11_nmos : let t := after [0x28#8] [(0x01FD#16, 0x10#8)] { start .nmos with sp := 0xFC#8, p := 0x24#8 }
    t.sp = 0xFD#8 ∧ t.p = 0x20#8 ∧ t.pc = 0x8001#16 ∧ t.cycles = 4 := by decide

theorem test_and_LA1_source : let t := after [0x25#8, 0x10#8] [(0x0010#16, 0x0F#8)] { start .source with a := 0xF0#8 }
    t.a = 0x00#8 ∧ t.p = 0x26#8 ∧ t.pc = 0x8002#16 ∧ t.cycles = 3 := by decide

theorem test_ora_LA2_source : let t := after [0x09#8, 0x80#8] [] { start .source with a := 0x00#8 }
    t.a = 0x80#8 ∧ t.p = 0xA4#8 ∧ t.pc = 0x8002#16 ∧ t.cycles = 2 := by decide

theorem test_eor_LA3_source : let t := after [0x49#8, 0x5A#8] [] { start .source with a := 0x5A#8 }
    t.a = 0x00#8 ∧ t.p = 0x26#8 ∧ t.pc = 0x8002#16 ∧ t.cycles = 2 := by decide

theorem test_bit_LA4_source : let t := after [0x24#8, 0x10#8] [(0x0010#16, 0xC0#8)] { start .source with a := 0x01#8 }
    t.p = 0xE6#8 ∧ t.pc = 0x8002#16 ∧ t.cycles = 3 := by decide

theorem test_adc_LA6_source : let t := after [0x69#8, 0x50#8] [] { start .source with a := 0x50#8, p := 0x25#8 }
    t.a = 0xA0#8 ∧ t.p = 0xA4#8 ∧ t.pc = 0x8002#16 ∧ t.cycles = 2 := by decide

theorem test_adc_LA6_nmos : let t := after [0x69#8, 0x50#8] [] { start .nmos with a := 0x50#8, p := 0x25#8 }
    t.a = 0xA1#8 ∧ t.p = 0xE4#8 ∧ t.pc = 0x8002#16 ∧ t.cycles = 2 := by decide

theorem test_sbc_LA12_source : let t := after [0xE9#8, 0x01#8] [] { start .source with a := 0x00#8, p := 0x25#8 }
    t.a = 0xFF#8 ∧ t.p = 0xE4#8 ∧ t.pc = 0x8002#16 ∧ t.cycles = 2 := by decide

theorem test_sbc_LA12_nmos : let t := after [0xE9#8, 0x01#8] [] { start .nmos with a := 0x00#8, p := 0x25#8 }
    t.a = 0xFF#8 ∧ t.p = 0xA4#8 ∧ t.pc = 0x8002#16 ∧ t.cycles = 2 := by decide

theorem test_isc_LA16_source : let t := after [0xE7#8, 0x10#8] [(0x0010#16, 0x04#8)] { start .source with a := 0x05#8, p := 0x25#8 }
    t.a = 0x00#8 ∧ t.p = 0x26#8 ∧ loadByte 0x0010#16 t = 0x05#8 ∧ t.pc = 0x8002#16 ∧ t.cycles = 5 := by decide

theorem test_isc_LA16_nmos : let t := after [0xE7#8, 0x10#8] [(0x0010#16, 0x04#8)] { start .nmos with a := 0x05#8, p := 0x25#8 }
    t.a = 0x00#8 ∧ t.p = 0x27#8 ∧ loadByte 0x0010#16 t = 0x05#8 ∧ t.pc = 0x8002#16 ∧ t.cycles = 5 := by decide

theorem test_cmp_CP3_source : let t := after [0xC9#8, 0x20#8] [] { start .source with a := 0x10#8, p := 0x25#8 }
    t.p = 0x24#8 ∧ t.pc = 0x8002#16 ∧ t.cycles = 2 := by decide

theorem test_cmp_CP3_nmos : let t := after [0xC9#8, 0x20#8] [] { start .nmos with a := 0x10#8, p := 0x25#8 }
    t.p = 0xA4#8 ∧ t.pc = 0x8002#16 ∧ t.cycles = 2 := by decide

theorem test_cpx_CP5_source : let t := after [0xEC#8, 0x00#8, 0x03#8] [(0x0300#16, 0xFF#8)] { start .source with x := 0xFF#8 }
    t.p = 0x26#8 ∧ t.pc = 0x8003#16 ∧ t.cycles = 4 := by decide

theorem test_cpx_CP5_nmos : let t := after [0xEC#8, 0x00#8, 0x03#8] [(0x0300#16, 0xFF#8)] { start .nmos with x := 0xFF#8 }
    t.p = 0x27#8 ∧ t.pc = 0x8003#16 ∧ t.cycles = 4 := by decide

theorem test_cpy_CP6_source : let t := after [0xC0#8, 0x01#8] [] { start .source with y := 0x00#8 }
    t.pc = 0x8002#16 ∧ t.cycles = 2 := by decide

theorem test_cpy_CP6_nmos : let t := after [0xC0#8, 0x01#8] [] { start .nmos with y := 0x00#8 }
    t.p = 0xA4#8 ∧ t.pc = 0x8002#16 ∧ t.cycles = 2 := by decide

theorem test_asl_SR1_source : let t := after [0x0A#8] [] { start .source with a := 0x80#8 }
    t.a = 0x00#8 ∧ t.p = 0x27#8 ∧ t.pc = 0x8001#16 ∧ t.cycles = 2 := by decide

theorem test_lsr_SR2_source : let t := after [0x4A#8] [] { start .source with a := 0x01#8, p := 0xA4#8 }
    t.a = 0x00#8 ∧ t.p = 0x27#8 ∧ t.pc = 0x8001#16 ∧ t.cycles = 2 := by decide

theorem test_rol_SR3_source : let t := after [0x2A#8] [] { start .source with a := 0x80#8, p := 0x25#8 }
    t.a = 0x01#8 ∧ t.pc = 0x8001#16 ∧ t.cycles = 2 := by decide

theorem test_ror_SR4_source : let t := after [0x6A#8] [] { start .source with a := 0x01#8, p := 0x25#8 }
    t.a = 0x80#8 ∧ t.p = 0xA5#8 ∧ t.pc = 0x8001#16 ∧ t.cycles = 2 := by decide

theorem test_asl_SR6_source : let t := after [0x06#8, 0x10#8] [(0x0010#16, 0x41#8)] (start .source)
    t.p = 0xA4#8 ∧ loadByte 0x0010#16 t = 0x82#8 ∧ t.pc = 0x8002#16 ∧ t.cycles = 5 := by decide

theorem test_ror_SR7_source : let t := after [0x7E#8, 0x00#8, 0x03#8] [(0x0301#16, 0x02#8)] { start .source with x := 0x01#8, p := 0x25#8 }
    t.p = 0xA4#8 ∧ loadByte 0x0301#16 t = 0x81#8 ∧ t.pc = 0x8003#16 ∧ t.cycles = 7 := by decide

theorem test_lsr_SR8_source : let t := after [0x4E#8, 0x00#8, 0x04#8] [(0x0400#16, 0xFF#8)] { start .source with p := 0x24#8 }
    t.p = 0x25#8 ∧ loadByte 0x0400#16 t = 0x7F#8 ∧ t.pc = 0x8003#16 ∧ t.cycles = 6 := by decide

theorem test_rol_SR9_source : let t := after [0x36#8, 0xF0#8] [(0x0010#16, 0x40#8)] { start .source with x := 0x20#8, p := 0x24#8 }
    t.p = 0xA4#8 ∧ loadByte 0x0010#16 t = 0x80#8 ∧ t.pc = 0x8002#16 ∧ t.cycles = 6 := by decide

theorem test_inc_ID1_source : let t := after [0xE6#8, 0x10#8] [(0x0010#16, 0xFF#8)] { start .source with p := 0x25#8 }
    t.p = 0x27#8 ∧ loadByte 0x0010#16 t = 0x00#8 ∧ t.pc = 0x8002#16 ∧ t.cycles = 5 := by decide

theorem test_dec_ID2_source : let t := after [0xCE#8, 0x00#8, 0x03#8] [(0x0300#16, 0x00#8)] (start .source)
    t.p = 0xA4#8 ∧ loadByte 0x0300#16 t = 0xFF#8 ∧ t.pc = 0x8003#16 ∧ t.cycles = 6 := by decide

theorem test_inx_ID3_source : let t := after [0xE8#8] [] { start .source with x := 0xFF#8 }
    t.x = 0x00#8 ∧ t.p = 0x26#8 ∧ t.pc = 0x8001#16 ∧ t.cycles = 2 := by decide

theorem test_iny_ID4_source : let t := after [0xC8#8] [] { start .source with y := 0x7F#8 }
    t.y = 0x80#8 ∧ t.p = 0xA4#8 ∧ t.pc = 0x8001#16 ∧ t.cycles = 2 := by decide

theorem test_dex_ID5_source : let t := after [0xCA#8] [] { start .source with x := 0x01#8 }
    t.x = 0x00#8 ∧ t.p = 0x26#8 ∧ t.pc = 0x8001#16 ∧ t.cycles = 2 := by decide

theorem test_dey_ID6_source : let t := after [0x88#8] [] { start .source with y := 0x00#8 }
    t.y = 0xFF#8 ∧ t.p = 0xA4#8 ∧ t.pc = 0x8001#16 ∧ t.cycles = 2 := by decide

theorem test_bcc_BR1_source : let t := after [0x90#8, 0x04#8] [] { start .source with p := 0x24#8 }
    t.pc = 0x8006#16 ∧ t.cycles = 3 := by decide

theorem test_bcs_BR2_source : let t := after [0xB0#8, 0x04#8] [] { start .source with p := 0x24#8 }
    t.pc = 0x8002#16 ∧ t.cycles = 2 := by decide

theorem test_beq_BR3_source : let t := after [0xF0#8, 0xFE#8] [] { start .source with p := 0x26#8 }
    t.pc = 0x8000#16 ∧ t.cycles = 3 := by decide

theorem test_bmi_BR4_source : let t := after [0x30#8, 0x02#8] [] { start .source with p := 0x24#8 }
    t.pc = 0x8004#16 ∧ t.cycles = 3 := by decide

theorem test_bmi_BR4_nmos : let t := after [0x30#8, 0x02#8] [] { start .nmos with p := 0x24#8 }
    t.pc = 0x8002#16 ∧ t.cycles = 2 := by decide

theorem test_bne_BR6_source : let t := after [0xD0#8, 0xFD#8] [] { start .source with pc := 0x8005#16, p := 0x24#8 }
    t.pc = 0x8004#16 ∧ t.cycles = 3 := by decide

theorem test_bpl_BR7_source : let t := after [0x10#8, 0x08#8] [] { start .source with p := 0xA4#8 }
    t.pc = 0x8002#16 ∧ t.cycles = 2 := by decide

theorem test_bvc_BR8_source : let t := after [0x50#8, 0x7F#8] [] { start .source with pc := 0xFFF0#16, p := 0x24#8 }
    t.pc = 0x0071#16 ∧ t.cycles = 3 := by decide

theorem test_bvs_BR9_source : let t := after [0x70#8, 0x80#8] [] { start .source with p := 0x64#8 }
    t.pc = 0x7F82#16 ∧ t.cycles = 3 := by decide

theorem test_jmp_JS1_source : let t := after [0x4C#8, 0x34#8, 0x12#8] [] (start .source)
    t.pc = 0x1234#16 ∧ t.cycles = 3 := by decide

theorem test_jmp_JS3_source : let t := after [0x6C#8, 0xFF#8, 0x30#8] [(0x30FF#16, 0x40#8), (0x3000#16, 0x80#8), (0x3100#16, 0x50#8)] (start .source)
    t.pc = 0x8040#16 ∧ t.cycles = 5 := by decide

theorem test_jsr_JS4_source : let t := after [0x20#8, 0x34#8, 0x12#8] [] { start .source with sp := 0xFD#8 }
    t.sp = 0xFB#8 ∧ loadByte 0x01FC#16 t = 0x01#8 ∧ loadByte 0x01FD#16 t = 0x80#8 ∧ t.pc = 0x1234#16 ∧ t.cycles = 6 := by decide

theorem test_jsr_JS4_nmos : let t := after [0x20#8, 0x34#8, 0x12#8] [] { start .nmos with sp := 0xFD#8 }
    t.sp = 0xFB#8 ∧ loadByte 0x01FC#16 t = 0x02#8 ∧ loadByte 0x01FD#16 t = 0x80#8 ∧ t.pc = 0x1234#16 ∧ t.cycles = 6 := by decide

theorem test_rts_JS6_source : let t := after [0x60#8] [(0x01FC#16, 0x01#8), (0x01FD#16, 0x80#8)] { start .source with sp := 0xFB#8 }
    t.sp = 0xFD#8 ∧ t.pc = 0x8003#16 ∧ t.cycles = 6 := by decide

theorem test_rts_JS6_nmos : let t := after [0x60#8] [(0x01FC#16, 0x01#8), (0x01FD#16, 0x80#8)] { start .nmos with sp := 0xFB#8 }
    t.sp = 0xFD#8 ∧ t.pc = 0x8002#16 ∧ t.cycles = 6 := by decide

theorem test_rti_JS9_source : let t := after [0x40#8] [(0x01FB#16, 0xFF#8), (0x01FC#16, 0x34#8), (0x01FD#16, 0x12#8)] { start .source with sp := 0xFA#8, p := 0x24#8 }
    t.sp = 0xFD#8 ∧ t.p = 0xFF#8 ∧ t.pc = 0x1234#16 ∧ t.cycles = 6 := by decide

theorem test_rti_JS9_nmos : let t := after [0x40#8] [(0x01FB#16, 0xFF#8), (0x01FC#16, 0x34#8), (0x01FD#16, 0x12#8)] { start .nmos with sp := 0xFA#8, p := 0x24#8 }
    t.sp = 0xFD#8 ∧ t.p = 0xEF#8 ∧ t.pc = 0x1234#16 ∧ t.cycles = 6 := by decide

theorem test_clc_FB1_source : let t := after [0x18#8] [] { start .source with p := 0x25#8 }
    t.p = 0x24#8 ∧ t.pc = 0x8001#16 ∧ t.cycles = 2 := by decide

theorem test_cld_FB2_source : let t := after [0xD8#8] [] { start .source with p := 0x2C#8 }
    t.p = 0x24#8 ∧ t.pc = 0x8001#16 ∧ t.cycles = 2 := by decide

theorem test_cli_FB3_source : let t := after [0x58#8] [] { start .source with p := 0x24#8 }
    t.p = 0x20#8 ∧ t.pc = 0x8001#16 ∧ t.cycles = 2 := by decide

theorem test_clv_FB4_source : let t := after [0xB8#8] [] { start .source with p := 0x64#8 }
    t.p = 0x24#8 ∧ t.pc = 0x8001#16 ∧ t.cycles = 2 := by decide

theorem test_sec_FB5_source : let t := after [0x38#8] [] { start .source with p := 0x24#8 }
    t.p = 0x25#8 ∧ t.pc = 0x8001#16 ∧ t.cycles = 2 := by decide

theorem test_sed_FB6_source : let t := after [0xF8#8] [] { start .source with p := 0x24#8 }
    t.p = 0x2C#8 ∧ t.pc = 0x8001#16 ∧ t.cycles = 2 := by decide

theorem test_sei_FB7_source : let t := after [0x78#8] [] { start .source with p := 0x20#8 }
    t.p = 0x24#8 ∧ t.pc = 0x8001#16 ∧ t.cycles = 2 := by decide

theorem test_brk_FB9_source : let t := after [0x00#8] [(0xFFFE#16, 0x34#8), (0xFFFF#16, 0x12#8)] { start .source with p := 0x00#8, sp := 0x01#8 }
    t.sp = 0xFE#8 ∧ t.p = 0x10#8 ∧ loadByte 0x0100#16 t = 0x02#8 ∧ loadByte 0x0101#16 t = 0x80#8 ∧ loadByte 0x01FF#16 t = 0x10#8 ∧ t.run = .halted ∧ t.pc = 0x1234#16 ∧ t.cycles = 7 := by decide

theorem test_brk_FB9_nmos : let t := after [0x00#8] [(0xFFFE#16, 0x34#8), (0xFFFF#16, 0x12#8)] { start .nmos with p := 0x00#8, sp := 0x01#8 }
    t.sp = 0xFE#8 ∧ t.p = 0x14#8 ∧ loadByte 0x0100#16 t = 0x02#8 ∧ loadByte 0x0101#16 t = 0x80#8 ∧ loadByte 0x01FF#16 t = 0x30#8 ∧ t.run = .halted ∧ t.pc = 0x1234#16 ∧ t.cycles = 7 := by decide

theorem test_nop_FB10_source : let t := after [0xEA#8] [] (start .source)
    t.pc = 0x8001#16 ∧ t.cycles = 2 := by decide

theorem test_unknown_EX2_source : let t := after [0x80#8, 0x00#8] [] { start .source with pc := 0x1234#16 }
    t.run = .faulted 0x80#8 0x1234#16 ∧ t.cycles = 0 := by decide

/-- R100, R301 and R303: no step follows a Halted or a Faulted state. -/
theorem test_step_halted : step { start .source with run := .halted } = .refused .runHalted ∧
    step { start .source with run := .faulted 0x02#8 0x8000#16 } = .fault (.unknownOpcode 0x02#8 0x8000#16) := ⟨rfl, rfl⟩

/-- An instruction placed by `withFetchWord` is the one the next step runs (LDA #$05, 70_reset_and_hazards.md). -/
theorem test_withFetchWord_runs : (match step (State.reset.withFetchWord 16 0x05A9) with
    | .next t => decide (t.a = 0x05#8 ∧ t.pc = 0x8002#16 ∧ t.cycles = 2)
    | .fault _ => false
    | .refused _ => false) = true := by decide

/-! ## Loaders (95_test_vectors.md section 3) -/

/-- What a loader did, in a form tests compare: its error, or PC and the bytes at these addresses. -/
def loaded (r : Except LoadError State) (as : List Word) : Except LoadError (Word × List Byte) :=
  match r with
  | .error e => .error e
  | .ok t => .ok (t.pc, as.map fun a => loadByte a t)

theorem test_loader_LD1 : loaded (loadProgram [0xA9#8, 0x05#8] 0x8000#16 (start .source)) [0x8000#16, 0x8001#16] =
    .ok (0x8000#16, [0xA9#8, 0x05#8]) := rfl

theorem test_loader_LD2_LD3 : loaded (loadProgram [0xEA#8] 0xFFFF#16 (start .source)) [0xFFFF#16] =
      .ok (0xFFFF#16, [0xEA#8]) ∧
    loaded (loadProgram [0xEA#8, 0xEA#8] 0xFFFF#16 (start .source)) [] = .error .outOfRange := ⟨rfl, rfl⟩

/-- Launch values, with NOP at 8000 before any load. -/
def launchValues : Launch where
  initA := 0x00#8
  initX := 0x00#8
  initY := 0x00#8
  initSp := 0xFD#8
  initMem := [(0x8000, 0xEA#8)]
  profile := .source

/-- R400 step 2 and R401: a program image at 9000 and then the run entry point, whose PC is the one in force;
and the same image with the loader alone, which starts at its base. -/
theorem test_launch_program_image :
    (match launchRun 1 launchValues (.program [0xE8#8] 0x9000#16) with
      | .ok t => decide (t.x = 0x00#8 ∧ t.pc = 0x8001#16 ∧ t.p = 0x24#8 ∧ t.cycles = 2)
      | .error _ => false) = true ∧
    (match runFromBase 1 [0xE8#8] 0x9000#16 (start .source) with
      | .ok t => decide (t.x = 0x01#8 ∧ t.pc = 0x9001#16 ∧ t.cycles = 2)
      | .error _ => false) = true := by decide

theorem test_cartridge_CR3_CR4_CR9 :
    extractPrg ([0x4E#8, 0x45#8, 0x53#8, 0x00#8, 0x01#8] ++ List.replicate 11 0x00#8) = .error .badMagic ∧
    extractPrg (List.replicate 10 0x4E#8) = .error .badMagic ∧
    extractPrg [0x4E#8, 0x45#8, 0x53#8, 0x00#8, 0x05#8] = .error .badMagic := ⟨rfl, rfl, rfl⟩

theorem test_cartridge_CR7_CR8 :
    extractPrg ([0x4E#8, 0x45#8, 0x53#8, 0x1A#8, 0x00#8] ++ List.replicate 11 0x00#8) = .ok [] ∧
    extractPrg ([0x4E#8, 0x45#8, 0x53#8, 0x1A#8, 0x03#8] ++ List.replicate 111 0x00#8) = .error .truncated := by
  constructor <;> simp [extractPrg, cartridgeMagic, headerLength, prgUnits, prgUnit]

/-- Branch offsets an assembler writes (R80), at both ends of the reach and just past them. -/
theorem test_branch_offset : branchOffset 0x8000#16 0x8081#16 = some 0x7F#8 ∧
    branchOffset 0x8000#16 0x7F82#16 = some 0x80#8 ∧ branchOffset 0x8000#16 0x8082#16 = none ∧
    branchOffset 0x8000#16 0x7F81#16 = none := ⟨rfl, rfl, rfl, rfl⟩

/-- The written lines of R80 and R82: `LDA #$05`, `JSR $1234`, two digits and four, `ASL A` and `ASL`, a mode
the mnemonic lacks, and a branch to an address. -/
theorem test_assemble : assemble 0x8000#16 .lda (.immediate 0x05#8) = some (.ldaImm 0x05#8) ∧
    assemble 0x8000#16 .jsr (.long 0x1234#16) = some (.jsr 0x1234#16) ∧
    assemble 0x8000#16 .lda (.short 0x10#8) = some (.ldaZp 0x10#8) ∧
    assemble 0x8000#16 .lda (.long 0x0010#16) = some (.ldaAbs 0x0010#16) ∧
    assemble 0x8000#16 .lda (.shortY 0x10#8) = some (.ldaAbsy 0x0010#16) ∧
    assemble 0x8000#16 .asl .accumulator = some .aslAcc ∧ assemble 0x8000#16 .asl .none = some .aslAcc ∧
    assemble 0x8000#16 .sta (.immediate 0x05#8) = none ∧
    assemble 0x8008#16 .bne (.long 0x8005#16) = some (.bne 0xFB#8) ∧
    assemble 0x8000#16 .bne (.long 0x9000#16) = none := by
  and_intros <;> decide

theorem test_assemblyText : assemblyText 0x8000#16 (.ldaImm 0x05#8) = ['L', 'D', 'A', ' ', '#', '$', '0', '5'] ∧
    assemblyText 0x8000#16 (.jmpInd 0x30FF#16) = ['J', 'M', 'P', ' ', '(', '$', '3', '0', 'F', 'F', ')'] ∧
    assemblyText 0x8000#16 .txa = ['T', 'X', 'A'] := ⟨rfl, rfl, rfl⟩

theorem test_assembleLine :
    assembleLine 0x8000#16 ['L', 'D', 'A', ' ', '#', '$', '0', '5'] = some (.ldaImm 0x05#8) ∧
    assembleLine 0x8000#16 ['J', 'S', 'R', ' ', '$', '1', '2', '3', '4'] = some (.jsr 0x1234#16) ∧
    assembleLine 0x8000#16 ['S', 'T', 'A', ' ', '(', '$', '4', '0', ')', ',', 'Y'] = some (.staIndy 0x40#8) ∧
    assembleLine 0x8000#16 ['N', 'O', 'P'] = some .nop ∧ assembleLine 0x8000#16 ['M', 'O', 'V'] = none := by
  and_intros <;> decide

/-- 95_test_vectors.md E1 and E2. -/
theorem test_flag_helpers : (setZN 0x00#8 { start .source with p := 0xA6#8 }).p = 0x26#8 ∧
    (setZN 0x80#8 { start .source with p := 0xA6#8 }).p = 0xA4#8 ∧
    carryOf 0xFF#8 0x01#8 = true ∧ carryOf 0x80#8 0x7F#8 = false ∧
    overflowAddOf 0x80#8 0x80#8 = true ∧ overflowAddOf 0x7F#8 0x01#8 = false ∧ overflowSubOf 0x00#8 0x01#8 = true := by
  decide

/-! ## Witnesses: states and operands that meet the hypotheses of each statement, clause by clause -/

/-- A state about to run these bytes at PC. -/
def ready (pr : Profile) (bytes : List Byte) : State := storeBytes 0x8000#16 bytes (start pr)

/-- The next state `exec` answers, or the state itself. -/
def ran (i : Instr) (s : State) : State :=
  match exec i s with
  | .next t => t
  | .fault _ => s
  | .refused _ => s

/-- O3: bytes that decode, of each length, with and without bytes after them. -/
theorem witness_DecodedBytesAreTheEncoding : decode [0xEA#8, 0xFF#8] = .ok (.nop, [0xFF#8]) ∧
    decode [0xA9#8, 0xFF#8] = .ok (.ldaImm 0xFF#8, []) ∧
    decode [0x6C#8, 0xFF#8, 0xFF#8] = .ok (.jmpInd 0xFFFF#16, []) := ⟨rfl, rfl, rfl⟩

/-- O4: the lowest and the highest opcode of the list, and of the rest. -/
theorem witness_UnknownOpcodesAreTheNinetyEight : 0x02#8 ∈ unknownOpcodes ∧ 0xFC#8 ∈ unknownOpcodes ∧
    0x00#8 ∉ unknownOpcodes ∧ 0xFF#8 ∉ unknownOpcodes ∧
    decode [0xEA#8, 0x00#8, 0x00#8] = .ok (.nop, [0x00#8, 0x00#8]) ∧
    (ready .nmos [0x02#8]).run = .running ∧ loadByte (ready .nmos [0x02#8]).pc (ready .nmos [0x02#8]) ∈ unknownOpcodes := by
  refine ⟨by decide, by decide, by decide, by decide, rfl, rfl, by decide⟩

/-- O5: different instructions with one opcode byte. -/
theorem witness_OpcodeAloneFixesTheLength :
    (encode (.bne 0x80#8)).head? = (encode (.bne 0x7F#8)).head? ∧ Instr.bne 0x80#8 ≠ .bne 0x7F#8 := by decide

/-- O6: a running state, with an instruction of three bytes at PC. -/
theorem witness_StepRunsTheDecodedInstruction : (ready .source [0x4C#8, 0x34#8, 0x12#8]).run = .running ∧
    decode (fetchBytes (ready .source [0x4C#8, 0x34#8, 0x12#8])) = .ok (.jmpAbs 0x1234#16, []) := ⟨rfl, rfl⟩

/-- O7: a running state with PC at the top of the address space, where the operand bytes wrap. -/
theorem witness_StepRunsAnInstructionPlacedAtPc : { start .source with pc := 0xFFFF#16 }.run = .running ∧
    fetchBytes (storeBytes 0xFFFF#16 (encode (.ldaAbs 0x1234#16)) { start .source with pc := 0xFFFF#16 }) =
      [0xAD#8, 0x34#8, 0x12#8] := ⟨rfl, by decide⟩

/-- O8, O9: running on an unknown opcode; Faulted; Halted; an instruction run from a running state. -/
theorem witness_EndOfTheRun : (ready .source [0xFC#8]).run = .running ∧
    loadByte (ready .source [0xFC#8]).pc (ready .source [0xFC#8]) ∈ unknownOpcodes ∧
    { start .source with run := .faulted 0xFC#8 0x8000#16 }.run = .faulted 0xFC#8 0x8000#16 ∧
    { start .source with run := .halted }.run ≠ .running ∧
    exec .brk (start .source) = .next (ran .brk (start .source)) := by
  refine ⟨rfl, by decide, rfl, by decide, rfl⟩

/-- O10, O13: a canonical memory, and steps from it: one that stores, one that adds nothing. -/
theorem witness_StepKeepsMemoryCanonical : (ready .source [0x8D#8, 0x00#8, 0x02#8]).mem.wf = true ∧
    step (ready .source [0x8D#8, 0x00#8, 0x02#8]) =
      .next (ran (.staAbs 0x0200#16) (ready .source [0x8D#8, 0x00#8, 0x02#8])) ∧
    exec (.staAbs 0x0200#16) (ready .nmos []) = .next (ran (.staAbs 0x0200#16) (ready .nmos [])) := by
  refine ⟨by decide, rfl, rfl⟩

/-- O12: a canonical memory that lists something, and one that is not canonical. -/
theorem witness_CanonicalMemories : Memory.wf [(0, 0x01#8), (65535, 0xFF#8)] = true ∧
    Memory.wf [(0, 0x00#8)] = false ∧ Memory.wf [(65536, 0x01#8)] = false ∧
    Memory.wf [(5, 0x01#8), (5, 0x02#8)] = false := by decide

/-- O14: a step to Halted, a step to Faulted, and a step that goes on. -/
theorem witness_OnlyBrkAndUnknownOpcodesEndTheRun :
    step (start .source) = .next (ran .brk (start .source)) ∧ (ran .brk (start .source)).run = .halted ∧
    loadByte (start .source).pc (start .source) = 0x00#8 ∧
    step (ready .source [0x02#8]) = .next { ready .source [0x02#8] with run := .faulted 0x02#8 0x8000#16 } ∧
    step (ready .source [0xEA#8]) = .next (ran .nop (ready .source [0xEA#8])) ∧
    (ran .nop (ready .source [0xEA#8])).run = .running := by
  refine ⟨rfl, rfl, rfl, rfl, rfl, rfl⟩

/-- O15: a branch taken and one not taken, and a step that ends in Faulted. -/
theorem witness_EachStepChargesItsCost : takenBranch (.bcc 0x80#8) (start .source) = true ∧
    takenBranch (.bcs 0x80#8) (start .source) = false ∧ takenBranch .nop (start .source) = false ∧
    exec (.bcc 0x80#8) (start .source) = .next (ran (.bcc 0x80#8) (start .source)) ∧
    step (ready .nmos [0x02#8]) = .next { ready .nmos [0x02#8] with run := .faulted 0x02#8 0x8000#16 } ∧
    runFailed { ready .nmos [0x02#8] with run := .faulted 0x02#8 0x8000#16 } = true := by
  refine ⟨rfl, rfl, rfl, rfl, rfl, rfl⟩

/-- O16: each register is changed by some instruction. -/
theorem witness_RegistersChangeOnlyByTheirWriters : (ran .inx (start .source)).x ≠ (start .source).x ∧
    (ran .dey (start .source)).y ≠ (start .source).y ∧ (ran .pha (start .source)).sp ≠ (start .source).sp ∧
    (ran (.ldaImm 0xFF#8) (start .source)).a ≠ (start .source).a ∧
    (ran .lsrAcc { start .source with a := 0x80#8 }).a ≠ 0x80#8 := by decide

/-- O17: each flag is changed by some instruction, in each profile that changes it. -/
theorem witness_FlagsChangeOnlyByTheirWriters :
    flag .carry (ran .sec (start .source)) ≠ flag .carry (start .source) ∧
    flag .zero (ran (.ldaImm 0x00#8) (start .nmos)) ≠ flag .zero (start .nmos) ∧
    flag .interruptDisable (ran .brk { start .nmos with p := 0x00#8 }) ≠ flag .interruptDisable { start .nmos with p := 0x00#8 } ∧
    flag .decimal (ran .sed (start .source)) ≠ flag .decimal (start .source) ∧
    flag .brk (ran .brk (start .source)) ≠ flag .brk (start .source) ∧
    flag .unused (ran .plp (start .source)) ≠ flag .unused (start .source) ∧
    flag .overflow (ran (.adcImm 0x01#8) { start .nmos with a := 0x7F#8 }) ≠ flag .overflow (start .nmos) ∧
    flag .negative (ran (.cmpImm 0x01#8) (start .nmos)) ≠ flag .negative (start .nmos) := by decide

/-- O18: an instruction that stores nothing, and ones that store one, two and three bytes. -/
theorem witness_MemoryChangesOnlyWhereTheInstructionStores :
    exec .nop (start .source) = .next (ran .nop (start .source)) ∧ storedAddresses .nop (start .source) = [] ∧
    storedAddresses (.iscIndy 0xFF#8) (start .nmos) = [0x0000#16] ∧
    storedAddresses (.jsr 0x1234#16) { start .source with sp := 0x00#8 } = [0x0100#16, 0x01FF#16] ∧
    storedAddresses .brk { start .source with sp := 0x01#8 } = [0x0101#16, 0x0100#16, 0x01FF#16] := by
  refine ⟨rfl, rfl, by decide, by decide, by decide⟩

/-- O19: an instruction that is neither PHP nor BRK, and the four flags. -/
theorem witness_StoredOnlyFlags : (rowOf .plp).mnemonic ∉ [Mnemonic.php, .brk] ∧
    (rowOf (.adcImm 0x01#8)).mnemonic ∉ [Mnemonic.php, .brk] ∧
    Flag.interruptDisable ∈ [Flag.interruptDisable, .decimal, .brk, .unused] ∧
    Flag.unused ∈ [Flag.interruptDisable, .decimal, .brk, .unused] := by decide

/-- O25, O32 to O35, O38 to O41, O47, O49 to O51, O54: states of both profiles. -/
theorem witness_both_profiles : (start .source).profile = .source ∧ (start .nmos).profile = .nmos := ⟨rfl, rfl⟩

/-- O35: PHA then PLA, and PHP then PLP in each profile, from the next state itself. -/
theorem witness_PushThenPullRestores :
    exec .pha (start .source) = .next (ran .pha (start .source)) ∧
    exec .pla (ran .pha (start .source)) = .next (ran .pla (ran .pha (start .source))) ∧
    exec .php (start .source) = .next (ran .php (start .source)) ∧
    exec .plp (ran .php (start .source)) = .next (ran .plp (ran .php (start .source))) ∧
    exec .php (start .nmos) = .next (ran .php (start .nmos)) ∧
    exec .plp (ran .php (start .nmos)) = .next (ran .plp (ran .php (start .nmos))) ∧
    flag .brk (ran .php (start .nmos)) = flag .brk (start .nmos) ∧
    flag .unused (ran .php (start .nmos)) = flag .unused (start .nmos) := by
  refine ⟨rfl, rfl, rfl, rfl, rfl, rfl, rfl, rfl⟩

/-- O46, O47: for each condition a state where it holds and one where it does not. -/
theorem witness_branch_conditions :
    (flag .carry { start .source with p := 0x01#8 } = true ∧ flag .carry { start .source with p := 0xFE#8 } = false) ∧
    (flag .zero { start .source with p := 0x02#8 } = true ∧ flag .zero { start .source with p := 0xFD#8 } = false) ∧
    (flag .negative { start .nmos with p := 0x80#8 } = true ∧ flag .negative { start .nmos with p := 0x7F#8 } = false) ∧
    (flag .overflow { start .source with p := 0x40#8 } = true ∧ flag .overflow { start .source with p := 0xBF#8 } = false) := by
  decide

/-- O48: pointers inside a page and at its last byte. -/
theorem witness_JmpGoesToItsTarget : (0x3100#16).toNat % 256 ≠ 255 ∧ (0x30FE#16).toNat % 256 ≠ 255 ∧
    (0x30FF#16).toNat % 256 = 255 ∧ (0xFFFF#16).toNat % 256 = 255 := by decide

/-- O50: a call and the return from it, in each profile. -/
theorem witness_RtsResumesAfterThePulledValue :
    exec (.jsr 0x1234#16) (start .source) = .next (ran (.jsr 0x1234#16) (start .source)) ∧
    exec .rts (ran (.jsr 0x1234#16) (start .source)) = .next (ran .rts (ran (.jsr 0x1234#16) (start .source))) ∧
    exec (.jsr 0x1234#16) (start .nmos) = .next (ran (.jsr 0x1234#16) (start .nmos)) ∧
    exec .rts (ran (.jsr 0x1234#16) (start .nmos)) = .next (ran .rts (ran (.jsr 0x1234#16) (start .nmos))) := by
  refine ⟨rfl, rfl, rfl, rfl⟩

/-- O53: the bytes that decode to NOP. -/
theorem witness_NopOnlyAdvances : decode [0xEA#8, 0x01#8, 0x02#8] = .ok (.nop, [0x01#8, 0x02#8]) := rfl

/-- O55: a running state whose store overwrites its own operand byte, and one that stores into the next
instruction. -/
theorem witness_StoresAreSeenByTheNextFetch : (ready .source [0x8D#8, 0x01#8, 0x80#8]).run = .running ∧
    decode (fetchBytes (ready .source [0x8D#8, 0x01#8, 0x80#8])) = .ok (.staAbs 0x8001#16, []) ∧
    storedAddresses (.staAbs 0x8001#16) (ready .source [0x8D#8, 0x01#8, 0x80#8]) = [0x8001#16] ∧
    decode (fetchBytes (ready .source [0x8D#8, 0x03#8, 0x80#8])) = .ok (.staAbs 0x8003#16, []) ∧
    (ran (.staAbs 0x8003#16) (ready .source [0x8D#8, 0x03#8, 0x80#8])).pc = 0x8003#16 := ⟨rfl, rfl, rfl, rfl, rfl⟩

/-- O55: the values stored by a read-modify-write instruction and by JSR in each profile (R178, R221). -/
theorem test_byteAfter : byteAfter (.iscZp 0x10#8) (withCells [(0x0010#16, 0xFF#8)] (start .source)) 0x0010#16 = 0x00#8 ∧
    byteAfter (.jsr 0x1234#16) (start .source) 0x01FC#16 = 0x01#8 ∧
    byteAfter (.jsr 0x1234#16) (start .nmos) 0x01FC#16 = 0x02#8 := by decide

/-- O57: an image that ends at the top of memory, one byte more, an index in it and addresses beside it. -/
theorem witness_ProgramLoader : (0xFFFF#16).toNat + [0xEA#8].length ≤ 65536 ∧
    (0xFFFF#16).toNat + [0xEA#8, 0xEA#8].length > 65536 ∧ 0 < [0xEA#8].length ∧
    (0xFFFE#16).toNat < (0xFFFF#16).toNat := by decide

/-- A cartridge of `k` units by its header, with `n` bytes after the header. -/
def cartridge (k : Byte) (n : Nat) : List Byte :=
  [0x4E#8, 0x45#8, 0x53#8, 0x1A#8, k] ++ (List.replicate 11 0x00#8 ++ List.replicate n 0xEA#8)

theorem length_cartridge (k : Byte) (n : Nat) : (cartridge k n).length = 16 + n := by
  simp [cartridge]; omega

/-- A cartridge file has the form the statement's hypothesis gives it. -/
theorem witness_cartridge_form (k : Byte) (n : Nat) :
    ∃ rest, cartridge k n = [0x4E#8, 0x45#8, 0x53#8, 0x1A#8, k] ++ rest := ⟨_, rfl⟩

/-- O58: for each outcome a file at its boundary: one byte short, exactly long enough, one unit too many. -/
theorem witness_CartridgeReader :
    (cartridge 0x01#8 16383).length < 16 + (0x01#8).toNat * 16384 ∧
    (16 + (0x03#8).toNat * 16384 ≤ (cartridge 0x03#8 49152).length ∧ (0x03#8).toNat > 2) ∧
    (16 + (0x02#8).toNat * 16384 ≤ (cartridge 0x02#8 32768).length ∧ (0x02#8).toNat ≤ 2) ∧
    (16 + (0x01#8).toNat * 16384 ≤ (cartridge 0x01#8 16384).length ∧ (0x01#8).toNat = 1) ∧
    (16 + (0x00#8).toNat * 16384 ≤ (cartridge 0x00#8 0).length ∧ 16 ≤ (cartridge 0x00#8 0).length) ∧
    ([] : List Byte).length < 16 ∧ (List.replicate 16 0x00#8).take 4 ≠ [0x4E#8, 0x45#8, 0x53#8, 0x1A#8] := by
  simp [length_cartridge]

/-- O59: an image of each kind that loads and one that does not, a step, and states whose run has ended. -/
theorem witness_RunEntry : loadImage (.cartridge (cartridge 0x00#8 0)) (start .source) = .ok (start .source) ∧
    loadImage (.cartridge []) (start .source) = .error .badMagic ∧
    loadImage (.program [0xEA#8] 0xFFFF#16) (start .source) =
      .ok ((storeByte 0xFFFF#16 0xEA#8 (start .source)).setPc 0xFFFF#16) ∧
    loadImage (.program [0xEA#8, 0xEA#8] 0xFFFF#16) (start .source) = .error .outOfRange ∧
    step (ready .source [0xEA#8]) = .next (ran .nop (ready .source [0xEA#8])) ∧
    (runSteps 1 (start .source)).run = .halted ∧ (runSteps 1 (ready .source [0x02#8])).run ≠ .running := by
  refine ⟨?_, rfl, rfl, rfl, rfl, rfl, by decide⟩
  have h : extractPrg (cartridge 0x00#8 0) = .ok [] := by
    simp [cartridge, extractPrg, cartridgeMagic, headerLength, prgUnits, prgUnit]
  simp only [loadImage, loadCartridge, h]
  rfl

/-- O60: the ends of the reach, and the first targets out of it. -/
theorem witness_AssemblerAgreesWithTheEncoding : branchOffset (start .source).pc 0x8081#16 = some 0x7F#8 ∧
    branchOffset (start .source).pc 0x7F82#16 = some 0x80#8 ∧ branchOffset 0x8000#16 0x8082#16 = none ∧
    branchOffset 0xFFF0#16 0x0071#16 = some 0x7F#8 := ⟨rfl, rfl, rfl, rfl⟩

end Sys2Proof.Tests
end

section
/-! PROOF. What an instruction can do to the state, said once by mnemonic, and the two ways it can end. -/

namespace Sys2Proof.Machine

/-- The mnemonics of 47_branch.md. -/
def branchMnemonics : List Mnemonic := [.bcc, .bcs, .beq, .bmi, .bne, .bpl, .bvc, .bvs]

/-- `MnemonicEffect s m u`: the rule of `m` can take `s` to `u`, before the charge of the base cycles and
the advance of PC. The operand is left open: `m` is a value, `o` a memory operand, `oo` a branch offset.
`exec_cases` ties this to `exec`. -/
inductive MnemonicEffect (s : State) : Mnemonic → State → Prop
  | lda (m : Byte) : MnemonicEffect s .lda (loadA m s)
  | ldx (m : Byte) : MnemonicEffect s .ldx (loadX m s)
  | ldy (m : Byte) : MnemonicEffect s .ldy (loadY m s)
  | sta (o : MemOperand) : MnemonicEffect s .sta (storeOperand o s.a s)
  | stx (o : MemOperand) : MnemonicEffect s .stx (storeOperand o s.x s)
  | sty (o : MemOperand) : MnemonicEffect s .sty (storeOperand o s.y s)
  | tax : MnemonicEffect s .tax (loadX s.a s)
  | tay : MnemonicEffect s .tay (loadY s.a s)
  | tsx : MnemonicEffect s .tsx (loadX s.sp s)
  | txa : MnemonicEffect s .txa (loadA (txaSource s) s)
  | txs : MnemonicEffect s .txs (s.setSp s.x)
  | tya : MnemonicEffect s .tya (loadA s.y s)
  | pha : MnemonicEffect s .pha (push8 s.a s)
  | php : MnemonicEffect s .php (push8 (pushedStatus s.profile s.p) s)
  | pla : MnemonicEffect s .pla (loadA (pulled8 s) (pull8 s))
  | plp : MnemonicEffect s .plp (pullStatus s)
  | and (m : Byte) : MnemonicEffect s .and (andA m s)
  | ora (m : Byte) : MnemonicEffect s .ora (orA m s)
  | eor (m : Byte) : MnemonicEffect s .eor (eorA m s)
  | bit (m : Byte) : MnemonicEffect s .bit (testBits m s)
  | adc (m : Byte) : MnemonicEffect s .adc (addOp m s)
  | sbc (m : Byte) : MnemonicEffect s .sbc (subOp m s)
  | isc (o : MemOperand) : MnemonicEffect s .isc (iscMem o s)
  | cmp (m : Byte) : MnemonicEffect s .cmp (compareOp s.a m s)
  | cpx (m : Byte) : MnemonicEffect s .cpx (compareOp s.x m s)
  | cpy (m : Byte) : MnemonicEffect s .cpy (compareOp s.y m s)
  | aslAcc : MnemonicEffect s .asl (aslAcc s)
  | aslMem (o : MemOperand) : MnemonicEffect s .asl (aslMem o s)
  | lsrAcc : MnemonicEffect s .lsr (lsrAcc s)
  | lsrMem (o : MemOperand) : MnemonicEffect s .lsr (lsrMem o s)
  | rolAcc : MnemonicEffect s .rol (rolAcc s)
  | rolMem (o : MemOperand) : MnemonicEffect s .rol (rolMem o s)
  | rorAcc : MnemonicEffect s .ror (rorAcc s)
  | rorMem (o : MemOperand) : MnemonicEffect s .ror (rorMem o s)
  | inc (o : MemOperand) : MnemonicEffect s .inc (incMem o s)
  | dec (o : MemOperand) : MnemonicEffect s .dec (decMem o s)
  | inx : MnemonicEffect s .inx (loadX (s.x + 1#8) s)
  | iny : MnemonicEffect s .iny (loadY (s.y + 1#8) s)
  | dex : MnemonicEffect s .dex (loadX (s.x - 1#8) s)
  | dey : MnemonicEffect s .dey (loadY (s.y - 1#8) s)
  | branchTaken {m : Mnemonic} (hm : m ∈ branchMnemonics) (oo : Byte) :
      MnemonicEffect s m (charge 1 (s.setPc (relativeTarget oo s)))
  | branchNotTaken {m : Mnemonic} (hm : m ∈ branchMnemonics) : MnemonicEffect s m s
  | jmp (target : Word) : MnemonicEffect s .jmp (s.setPc target)
  | jsr (target : Word) : MnemonicEffect s .jsr (callSubroutine target s)
  | rts : MnemonicEffect s .rts (returnFromSubroutine s)
  | rti : MnemonicEffect s .rti (returnFromTrap s)
  | clc : MnemonicEffect s .clc (setFlag .carry false s)
  | cld : MnemonicEffect s .cld (setFlag .decimal false s)
  | cli : MnemonicEffect s .cli (setFlag .interruptDisable false s)
  | clv : MnemonicEffect s .clv (setFlag .overflow false s)
  | sec : MnemonicEffect s .sec (setFlag .carry true s)
  | sed : MnemonicEffect s .sed (setFlag .decimal true s)
  | sei : MnemonicEffect s .sei (setFlag .interruptDisable true s)
  | brk : MnemonicEffect s .brk (halt (takeBreak s))
  | nop : MnemonicEffect s .nop s

/-- A branch is taken and ends as a transfer does, or leaves the state as it is and PC advances (R210). -/
theorem branch_cases {i : Instr} {c : Bool} {oo : Byte} {s t : State}
    (hm : (rowOf i).mnemonic ∈ branchMnemonics) (h : branch i c oo s = .next t) :
    ∃ u, MnemonicEffect s (rowOf i).mnemonic u ∧ (advance i u = .next t ∨ transfer i u = .next t) := by
  cases c with
  | true => exact ⟨_, .branchTaken hm oo, .inr h⟩
  | false => exact ⟨_, .branchNotTaken hm, .inl h⟩

/-- Inversion of `exec`: the effect of the instruction's mnemonic, then one of the two endings (R101). -/
theorem exec_cases {i : Instr} {s t : State} (h : exec i s = .next t) :
    ∃ u, MnemonicEffect s (rowOf i).mnemonic u ∧ (advance i u = .next t ∨ transfer i u = .next t) := by
  cases i with
  | ldaImm | ldaZp | ldaZpx | ldaAbs | ldaAbsx | ldaAbsy | ldaIndx | ldaIndy =>
    exact ⟨_, .lda _, .inl h⟩
  | ldxImm | ldxZp | ldxZpy | ldxAbs | ldxAbsy => exact ⟨_, .ldx _, .inl h⟩
  | ldyImm | ldyZp | ldyZpx | ldyAbs | ldyAbsx => exact ⟨_, .ldy _, .inl h⟩
  | staZp | staZpx | staAbs | staAbsx | staAbsy | staIndx | staIndy => exact ⟨_, .sta _, .inl h⟩
  | stxZp | stxZpy | stxAbs => exact ⟨_, .stx _, .inl h⟩
  | styZp | styZpx | styAbs => exact ⟨_, .sty _, .inl h⟩
  | tax => exact ⟨_, .tax, .inl h⟩
  | tay => exact ⟨_, .tay, .inl h⟩
  | tsx => exact ⟨_, .tsx, .inl h⟩
  | txa => exact ⟨_, .txa, .inl h⟩
  | txs => exact ⟨_, .txs, .inl h⟩
  | tya => exact ⟨_, .tya, .inl h⟩
  | pha => exact ⟨_, .pha, .inl h⟩
  | php => exact ⟨_, .php, .inl h⟩
  | pla => exact ⟨_, .pla, .inl h⟩
  | plp => exact ⟨_, .plp, .inl h⟩
  | andImm | andZp | andZpx | andAbs | andAbsx | andAbsy | andIndx | andIndy =>
    exact ⟨_, .and _, .inl h⟩
  | oraImm | oraZp | oraZpx | oraAbs | oraAbsx | oraAbsy | oraIndx | oraIndy =>
    exact ⟨_, .ora _, .inl h⟩
  | eorImm | eorZp | eorZpx | eorAbs | eorAbsx | eorAbsy | eorIndx | eorIndy =>
    exact ⟨_, .eor _, .inl h⟩
  | bitZp | bitAbs => exact ⟨_, .bit _, .inl h⟩
  | adcImm | adcZp | adcZpx | adcAbs | adcAbsx | adcAbsy | adcIndx | adcIndy =>
    exact ⟨_, .adc _, .inl h⟩
  | sbcImm | sbcZp | sbcZpx | sbcAbs | sbcAbsx | sbcAbsy | sbcIndx | sbcIndy =>
    exact ⟨_, .sbc _, .inl h⟩
  | iscZp | iscZpx | iscAbs | iscAbsx | iscAbsy | iscIndx | iscIndy => exact ⟨_, .isc _, .inl h⟩
  | cmpImm | cmpZp | cmpZpx | cmpAbs | cmpAbsx | cmpAbsy | cmpIndx | cmpIndy =>
    exact ⟨_, .cmp _, .inl h⟩
  | cpxImm | cpxZp | cpxAbs => exact ⟨_, .cpx _, .inl h⟩
  | cpyImm | cpyZp | cpyAbs => exact ⟨_, .cpy _, .inl h⟩
  | aslAcc => exact ⟨_, .aslAcc, .inl h⟩
  | aslZp | aslZpx | aslAbs | aslAbsx => exact ⟨_, .aslMem _, .inl h⟩
  | lsrAcc => exact ⟨_, .lsrAcc, .inl h⟩
  | lsrZp | lsrZpx | lsrAbs | lsrAbsx => exact ⟨_, .lsrMem _, .inl h⟩
  | rolAcc => exact ⟨_, .rolAcc, .inl h⟩
  | rolZp | rolZpx | rolAbs | rolAbsx => exact ⟨_, .rolMem _, .inl h⟩
  | rorAcc => exact ⟨_, .rorAcc, .inl h⟩
  | rorZp | rorZpx | rorAbs | rorAbsx => exact ⟨_, .rorMem _, .inl h⟩
  | incZp | incZpx | incAbs | incAbsx => exact ⟨_, .inc _, .inl h⟩
  | decZp | decZpx | decAbs | decAbsx => exact ⟨_, .dec _, .inl h⟩
  | inx => exact ⟨_, .inx, .inl h⟩
  | iny => exact ⟨_, .iny, .inl h⟩
  | dex => exact ⟨_, .dex, .inl h⟩
  | dey => exact ⟨_, .dey, .inl h⟩
  | bcc | bcs | beq | bmi | bne | bpl | bvc | bvs =>
    exact branch_cases (by simp [rowOf, branchMnemonics]) h
  | jmpAbs | jmpInd => exact ⟨_, .jmp _, .inr h⟩
  | jsr => exact ⟨_, .jsr _, .inr h⟩
  | rts => exact ⟨_, .rts, .inr h⟩
  | rti => exact ⟨_, .rti, .inr h⟩
  | clc => exact ⟨_, .clc, .inl h⟩
  | cld => exact ⟨_, .cld, .inl h⟩
  | cli => exact ⟨_, .cli, .inl h⟩
  | clv => exact ⟨_, .clv, .inl h⟩
  | sec => exact ⟨_, .sec, .inl h⟩
  | sed => exact ⟨_, .sed, .inl h⟩
  | sei => exact ⟨_, .sei, .inl h⟩
  | brk => exact ⟨_, .brk, .inr h⟩
  | nop => exact ⟨_, .nop, .inl h⟩

/-- Inversion of `step`: the decoded instruction runs, or an opcode without a handler ends the run
(R100, R101, R301). -/
theorem step_cases {s t : State} (h : step s = .next t) :
    (∃ i rest, decode (fetchBytes s) = .ok (i, rest) ∧ exec i s = .next t) ∨
    (∃ e, decode (fetchBytes s) = .error e ∧ t = raiseUnknownOpcode (loadByte s.pc s) s.pc s) := by
  simp only [step, running_of_step h] at h
  split at h
  next i rest hd => exact .inl ⟨i, rest, hd, h⟩
  next e hd =>
    injection h with h
    exact .inr ⟨e, hd, h.symm⟩

end Sys2Proof.Machine
end

section
/-! PROOF. The profile is fixed for the whole run (00_scope.md R8). -/

namespace Sys2Proof.Machine

@[simp] theorem raiseUnknownOpcode_profile (op : Byte) (addr : Word) (s : State) :
    (raiseUnknownOpcode op addr s).profile = s.profile := rfl

theorem advance_profile {i : Instr} {s t : State} (h : advance i s = .next t) :
    t.profile = s.profile := by
  rw [(advance_next_iff i s t).1 h, State.profile_setCycles, State.profile_setPc]

theorem transfer_profile {i : Instr} {s t : State} (h : transfer i s = .next t) :
    t.profile = s.profile := by
  rw [(transfer_next_iff i s t).1 h, State.profile_setCycles]

/-- Each mnemonic's effect is an operation whose own `_profile` law stands under Laws. -/
theorem MnemonicEffect.profile_eq {m : Mnemonic} {s u : State} (h : MnemonicEffect s m u) :
    u.profile = s.profile := by
  cases h <;> simp

theorem exec_profile {i : Instr} {s t : State} (h : exec i s = .next t) : t.profile = s.profile := by
  obtain ⟨u, heffect, hend⟩ := exec_cases h
  have htu : t.profile = u.profile := hend.elim advance_profile transfer_profile
  exact htu.trans heffect.profile_eq

theorem step_profile {s t : State} (h : step s = .next t) : t.profile = s.profile := by
  obtain ⟨i, _, _, hexec⟩ | ⟨_, _, rfl⟩ := step_cases h
  · exact exec_profile hexec
  · exact raiseUnknownOpcode_profile _ _ s

/-- Settles O13: an instruction is the effect of its mnemonic and an ending, a step is an instruction or
the record of an unknown opcode, and none of these writes the profile. -/
theorem stepNeverChangesTheProfile : Obligations.StepNeverChangesTheProfile :=
  ⟨fun _ _ _ => exec_profile, fun _ _ => step_profile⟩

end Sys2Proof.Machine
end

section
/-! PROOF. What the two endings of an instruction write, and the bits of a pulled P. -/

namespace Sys2Proof.Machine

/-- The ending of an instruction writes PC and Cycles alone. -/
theorem ending_eq {i : Instr} {u t : State} (h : advance i u = .next t ∨ transfer i u = .next t) :
    t = (u.setPc t.pc).setCycles t.cycles := by
  obtain h | h := h
  · rw [(advance_next_iff i u t).1 h]; rfl
  · rw [(transfer_next_iff i u t).1 h]; rfl

/-- P after PLP or RTI: the pulled bits, but in the NMOS profile B and U stay (R159, R223). -/
theorem getBit_pulledStatus (pr : Profile) (v p : Byte) (f : Flag) :
    getBit (pulledStatus pr v p) (flagBit f) =
      if pr = .nmos ∧ (f = .brk ∨ f = .unused) then getBit p (flagBit f) else getBit v (flagBit f) := by
  cases pr <;> cases f <;> simp [pulledStatus, getBit_eq_getLsbD, flagBit]

end Sys2Proof.Machine
end

section
/-! PROOF. The two-run rule: a relation between states that every read respects and every write keeps is
kept by every instruction. -/

namespace Sys2Proof.Machine

/-- `R` relates states only if they agree on all that an instruction reads, PHP and BRK aside, and the same
write on both sides keeps it. -/
structure IsTwoRunRelation (R : State → State → Prop) : Prop where
  reads_a {s s' : State} : R s s' → s'.a = s.a
  reads_x {s s' : State} : R s s' → s'.x = s.x
  reads_y {s s' : State} : R s s' → s'.y = s.y
  reads_sp {s s' : State} : R s s' → s'.sp = s.sp
  reads_pc {s s' : State} : R s s' → s'.pc = s.pc
  reads_mem {s s' : State} : R s s' → s'.mem = s.mem
  reads_profile {s s' : State} : R s s' → s'.profile = s.profile
  reads_carry {s s' : State} : R s s' → flag .carry s' = flag .carry s
  reads_zero {s s' : State} : R s s' → flag .zero s' = flag .zero s
  reads_overflow {s s' : State} : R s s' → flag .overflow s' = flag .overflow s
  reads_negative {s s' : State} : R s s' → flag .negative s' = flag .negative s
  keeps_setA {s s' : State} (v : Byte) : R s s' → R (s.setA v) (s'.setA v)
  keeps_setX {s s' : State} (v : Byte) : R s s' → R (s.setX v) (s'.setX v)
  keeps_setY {s s' : State} (v : Byte) : R s s' → R (s.setY v) (s'.setY v)
  keeps_setSp {s s' : State} (v : Byte) : R s s' → R (s.setSp v) (s'.setSp v)
  keeps_setPc {s s' : State} (v : Word) : R s s' → R (s.setPc v) (s'.setPc v)
  keeps_setMem {s s' : State} (m : Memory) : R s s' → R (s.setMem m) (s'.setMem m)
  keeps_setRun {s s' : State} (r : Run) : R s s' → R (s.setRun r) (s'.setRun r)
  keeps_setFlag {s s' : State} (f : Flag) (v : Bool) : R s s' → R (setFlag f v s) (setFlag f v s')
  keeps_pulledStatus {s s' : State} (pr : Profile) (v : Byte) :
    R s s' → R (s.setP (pulledStatus pr v s.p)) (s'.setP (pulledStatus pr v s'.p))
  keeps_charge {s s' : State} (n : Nat) : R s s' → R (charge n s) (charge n s')

/-- Both results are next states, and `R` relates these. -/
def NextStatesRelated (R : State → State → Prop) (r r' : Result) : Prop :=
  ∃ t t', r = .next t ∧ r' = .next t' ∧ R t t'

section
variable {R : State → State → Prop} (hR : IsTwoRunRelation R) {s s' : State} (h : R s s')
include hR h

/-! ## Reads -/

theorem related_loadByte (a : Word) : loadByte a s' = loadByte a s := loadByte_congr (hR.reads_mem h) a

theorem related_effectiveAddress (o : MemOperand) : effectiveAddress o s' = effectiveAddress o s :=
  effectiveAddress_congr (hR.reads_x h) (hR.reads_y h) (hR.reads_mem h) (hR.reads_profile h) o

theorem related_operandValue (o : MemOperand) : operandValue o s' = operandValue o s :=
  operandValue_congr (hR.reads_x h) (hR.reads_y h) (hR.reads_mem h) (hR.reads_profile h) o

theorem related_pulled8 : pulled8 s' = pulled8 s := by
  rw [pulled8, pulled8, hR.reads_sp h, related_loadByte hR h]

theorem related_indirectTarget (ptr : Word) : indirectTarget ptr s' = indirectTarget ptr s := by
  simp only [indirectTarget, related_loadByte hR h]

theorem related_txaSource : txaSource s' = txaSource s := by
  simp only [txaSource, hR.reads_profile h, hR.reads_sp h, hR.reads_x h]

theorem related_minusCondition : minusCondition s' = minusCondition s := by
  simp only [minusCondition, hR.reads_profile h, hR.reads_zero h, hR.reads_negative h]

theorem related_subtrahend (m : Byte) : subtrahend m s' = subtrahend m s := by
  rw [subtrahend, subtrahend, hR.reads_carry h]

/-! ## Writes -/

theorem related_setZN (v : Byte) : R (setZN v s) (setZN v s') :=
  hR.keeps_setFlag _ _ (hR.keeps_setFlag _ _ h)

theorem related_loadA {m m' : Byte} (hm : m' = m) : R (loadA m s) (loadA m' s') :=
  hm ▸ related_setZN hR (hR.keeps_setA m h) m

theorem related_loadX {m m' : Byte} (hm : m' = m) : R (loadX m s) (loadX m' s') :=
  hm ▸ related_setZN hR (hR.keeps_setX m h) m

theorem related_loadY {m m' : Byte} (hm : m' = m) : R (loadY m s) (loadY m' s') :=
  hm ▸ related_setZN hR (hR.keeps_setY m h) m

theorem related_storeByte (a : Word) (v : Byte) : R (storeByte a v s) (storeByte a v s') := by
  rw [storeByte, storeByte, hR.reads_mem h]
  exact hR.keeps_setMem _ h

theorem related_storeOperand (o : MemOperand) {v v' : Byte} (hv : v' = v) :
    R (storeOperand o v s) (storeOperand o v' s') := by
  rw [storeOperand, storeOperand, related_effectiveAddress hR h, hv]
  exact related_storeByte hR h _ v

/-! ## The stack -/

theorem related_push8 {v v' : Byte} (hv : v' = v) : R (push8 v s) (push8 v' s') := by
  simp only [push8, storeByte_sp, hR.reads_sp h, hv]
  exact hR.keeps_setSp _ (related_storeByte hR h _ v)

theorem related_push16 {v v' : Word} (hv : v' = v) : R (push16 v s) (push16 v' s') :=
  hv ▸ related_push8 hR (related_push8 hR h rfl) rfl

theorem related_pull8 : R (pull8 s) (pull8 s') := by
  rw [pull8, pull8, hR.reads_sp h]
  exact hR.keeps_setSp _ h

theorem related_pulled16 : pulled16 s' = pulled16 s := by
  rw [pulled16, pulled16, related_pulled8 hR h, related_pulled8 hR (related_pull8 hR h)]

theorem related_pullStatus : R (pullStatus s) (pullStatus s') := by
  rw [pullStatus, pullStatus, related_pulled8 hR h, hR.reads_profile h]
  exact hR.keeps_pulledStatus s.profile (pulled8 s) (related_pull8 hR h)

theorem related_callSubroutine (target : Word) : R (callSubroutine target s) (callSubroutine target s') :=
  hR.keeps_setPc _ (related_push16 hR h (by rw [hR.reads_pc h, hR.reads_profile h]))

theorem related_returnFromSubroutine : R (returnFromSubroutine s) (returnFromSubroutine s') := by
  rw [returnFromSubroutine, returnFromSubroutine, related_pulled16 hR h, hR.reads_profile h]
  exact hR.keeps_setPc _ (related_pull8 hR (related_pull8 hR h))

theorem related_returnFromTrap : R (returnFromTrap s) (returnFromTrap s') := by
  have hpulled := related_pullStatus hR h
  simp only [returnFromTrap, related_pulled16 hR hpulled]
  exact hR.keeps_setPc _ (related_pull8 hR (related_pull8 hR hpulled))

theorem related_markBroken : R (markBroken s) (markBroken s') := by
  have hbrk := hR.keeps_setFlag .brk true h
  cases hpr : s.profile with
  | source => simpa only [markBroken, hR.reads_profile h, hpr] using hbrk
  | nmos =>
    simpa only [markBroken, hR.reads_profile h, hpr] using hR.keeps_setFlag .interruptDisable true hbrk

/-- Trap entry by BRK pushes the whole of P, so P has to agree (R237). -/
theorem related_takeBreak (hp : s'.p = s.p) : R (takeBreak s) (takeBreak s') := by
  have hsaved : R (push8 (brokenStatus s.profile s.p) (push16 (s.pc + 2#16) s))
      (push8 (brokenStatus s'.profile s'.p) (push16 (s'.pc + 2#16) s')) :=
    related_push8 hR (related_push16 hR h (by rw [hR.reads_pc h])) (by rw [hR.reads_profile h, hp])
  have hmarked := related_markBroken hR hsaved
  simp only [takeBreak, related_loadByte hR hmarked]
  exact hR.keeps_setPc _ hmarked

/-! ## Arithmetic, compares, shifts, counts -/

theorem related_testBits {m m' : Byte} (hm : m' = m) : R (testBits m s) (testBits m' s') := by
  rw [testBits, testBits, hR.reads_a h, hm]
  exact hR.keeps_setFlag _ _ (hR.keeps_setFlag _ _ (hR.keeps_setFlag _ _ h))

theorem related_addOpNmos (m : Byte) : R (addOpNmos m s) (addOpNmos m s') := by
  simp only [addOpNmos, hR.reads_a h, hR.reads_carry h]
  exact related_loadA hR (hR.keeps_setFlag _ _ (hR.keeps_setFlag _ _ h)) rfl

theorem related_addOp {m m' : Byte} (hm : m' = m) : R (addOp m s) (addOp m' s') := by
  subst hm
  cases hpr : s.profile with
  | source =>
    simp only [addOp, hR.reads_profile h, hpr, hR.reads_a h]
    exact related_loadA hR (hR.keeps_setFlag _ _ (hR.keeps_setFlag _ _ h)) rfl
  | nmos => simpa only [addOp, hR.reads_profile h, hpr] using related_addOpNmos hR h m'

theorem related_subOp {m m' : Byte} (hm : m' = m) : R (subOp m s) (subOp m' s') := by
  subst hm
  cases hpr : s.profile with
  | source =>
    simp only [subOp, hR.reads_profile h, hpr, hR.reads_a h, related_subtrahend hR h]
    exact related_loadA hR (hR.keeps_setFlag _ _ (hR.keeps_setFlag _ _ h)) rfl
  | nmos => simpa only [subOp, hR.reads_profile h, hpr] using related_addOpNmos hR h (m' ^^^ 0xFF#8)

theorem related_compareOp {r r' m m' : Byte} (hr : r' = r) (hm : m' = m) :
    R (compareOp r m s) (compareOp r' m' s') := by
  subst hr hm
  cases hpr : s.profile with
  | source =>
    simp only [compareOp, hR.reads_profile h, hpr]
    exact hR.keeps_setFlag _ _ (hR.keeps_setFlag _ _ h)
  | nmos =>
    simp only [compareOp, hR.reads_profile h, hpr]
    exact hR.keeps_setFlag _ _ (hR.keeps_setFlag _ _ (hR.keeps_setFlag _ _ h))

theorem related_shiftFlags (c : Bool) (r : Byte) : R (shiftFlags c r s) (shiftFlags c r s') :=
  related_setZN hR (hR.keeps_setFlag _ _ h) r

theorem related_aslAcc : R (aslAcc s) (aslAcc s') := by
  rw [aslAcc, aslAcc, hR.reads_a h]
  exact hR.keeps_setA _ (related_shiftFlags hR h _ _)

theorem related_lsrAcc : R (lsrAcc s) (lsrAcc s') := by
  rw [lsrAcc, lsrAcc, hR.reads_a h]
  exact hR.keeps_setA _ (related_shiftFlags hR h _ _)

theorem related_rolAcc : R (rolAcc s) (rolAcc s') := by
  simp only [rolAcc, hR.reads_a h, hR.reads_carry h]
  exact hR.keeps_setA _ (related_shiftFlags hR h _ _)

theorem related_rorAcc : R (rorAcc s) (rorAcc s') := by
  simp only [rorAcc, hR.reads_a h, hR.reads_carry h]
  exact hR.keeps_setA _ (related_shiftFlags hR h _ _)

theorem related_aslMem (o : MemOperand) : R (aslMem o s) (aslMem o s') := by
  simp only [aslMem, related_operandValue hR h]
  exact related_storeOperand hR (related_shiftFlags hR h _ _) o rfl

theorem related_lsrMem (o : MemOperand) : R (lsrMem o s) (lsrMem o s') := by
  simp only [lsrMem, related_operandValue hR h]
  exact related_storeOperand hR (related_shiftFlags hR h _ _) o rfl

theorem related_rolMem (o : MemOperand) : R (rolMem o s) (rolMem o s') := by
  simp only [rolMem, related_operandValue hR h, hR.reads_carry h]
  exact related_storeOperand hR (related_shiftFlags hR h _ _) o rfl

theorem related_rorMem (o : MemOperand) : R (rorMem o s) (rorMem o s') := by
  simp only [rorMem, related_operandValue hR h, hR.reads_carry h]
  exact related_storeOperand hR (related_shiftFlags hR h _ _) o rfl

theorem related_incMem (o : MemOperand) : R (incMem o s) (incMem o s') := by
  simp only [incMem, related_operandValue hR h]
  exact related_setZN hR (related_storeOperand hR h o rfl) _

theorem related_decMem (o : MemOperand) : R (decMem o s) (decMem o s') := by
  simp only [decMem, related_operandValue hR h]
  exact related_setZN hR (related_storeOperand hR h o rfl) _

theorem related_iscMem (o : MemOperand) : R (iscMem o s) (iscMem o s') := by
  simp only [iscMem, related_operandValue hR h]
  exact related_subOp hR (related_storeOperand hR h o rfl) rfl

/-! ## The end of an instruction -/

theorem related_transfer (i : Instr) : NextStatesRelated R (transfer i s) (transfer i s') :=
  ⟨_, _, rfl, rfl, hR.keeps_charge _ h⟩

theorem related_advance (i : Instr) : NextStatesRelated R (advance i s) (advance i s') := by
  rw [advance, advance, hR.reads_pc h]
  exact ⟨_, _, rfl, rfl, hR.keeps_charge _ (hR.keeps_setPc _ h)⟩

theorem related_branch (i : Instr) {c c' : Bool} (hc : c' = c) (oo : Byte) :
    NextStatesRelated R (branch i c oo s) (branch i c' oo s') := by
  subst hc
  cases c' with
  | true =>
    have htarget : relativeTarget oo s' = relativeTarget oo s := by
      rw [relativeTarget, relativeTarget, hR.reads_pc h]
    simp only [branch, if_true, htarget]
    exact related_transfer hR (hR.keeps_charge _ (hR.keeps_setPc _ h)) i
  | false => exact related_advance hR h i

/-- The two-run rule. PHP and BRK alone need the whole of P to agree: they push it (R157, R237). -/
theorem related_exec (i : Instr) (hp : (rowOf i).mnemonic ∉ [.php, .brk] ∨ s'.p = s.p) :
    NextStatesRelated R (exec i s) (exec i s') := by
  have hpush : (rowOf i).mnemonic ∈ [.php, .brk] → s'.p = s.p := fun hm => hp.resolve_left (· hm)
  cases i with
  | ldaImm => exact related_advance hR (related_loadA hR h rfl) _
  | ldaZp | ldaZpx | ldaAbs | ldaAbsx | ldaAbsy | ldaIndx | ldaIndy =>
    exact related_advance hR (related_loadA hR h (related_operandValue hR h _)) _
  | ldxImm => exact related_advance hR (related_loadX hR h rfl) _
  | ldxZp | ldxZpy | ldxAbs | ldxAbsy =>
    exact related_advance hR (related_loadX hR h (related_operandValue hR h _)) _
  | ldyImm => exact related_advance hR (related_loadY hR h rfl) _
  | ldyZp | ldyZpx | ldyAbs | ldyAbsx =>
    exact related_advance hR (related_loadY hR h (related_operandValue hR h _)) _
  | staZp | staZpx | staAbs | staAbsx | staAbsy | staIndx | staIndy =>
    exact related_advance hR (related_storeOperand hR h _ (hR.reads_a h)) _
  | stxZp | stxZpy | stxAbs => exact related_advance hR (related_storeOperand hR h _ (hR.reads_x h)) _
  | styZp | styZpx | styAbs => exact related_advance hR (related_storeOperand hR h _ (hR.reads_y h)) _
  | tax => exact related_advance hR (related_loadX hR h (hR.reads_a h)) _
  | tay => exact related_advance hR (related_loadY hR h (hR.reads_a h)) _
  | tsx => exact related_advance hR (related_loadX hR h (hR.reads_sp h)) _
  | txa => exact related_advance hR (related_loadA hR h (related_txaSource hR h)) _
  | txs =>
    have hsp : R (s.setSp s.x) (s'.setSp s'.x) := hR.reads_x h ▸ hR.keeps_setSp _ h
    exact related_advance hR hsp _
  | tya => exact related_advance hR (related_loadA hR h (hR.reads_y h)) _
  | pha => exact related_advance hR (related_push8 hR h (hR.reads_a h)) _
  | php =>
    have hv : pushedStatus s'.profile s'.p = pushedStatus s.profile s.p := by
      rw [hR.reads_profile h, hpush (by decide)]
    exact related_advance hR (related_push8 hR h hv) _
  | pla => exact related_advance hR (related_loadA hR (related_pull8 hR h) (related_pulled8 hR h)) _
  | plp => exact related_advance hR (related_pullStatus hR h) _
  | andImm | oraImm | eorImm => exact related_advance hR (related_loadA hR h (by rw [hR.reads_a h])) _
  | andZp | andZpx | andAbs | andAbsx | andAbsy | andIndx | andIndy
  | oraZp | oraZpx | oraAbs | oraAbsx | oraAbsy | oraIndx | oraIndy
  | eorZp | eorZpx | eorAbs | eorAbsx | eorAbsy | eorIndx | eorIndy =>
    exact related_advance hR
      (related_loadA hR h (by rw [hR.reads_a h, related_operandValue hR h])) _
  | bitZp | bitAbs => exact related_advance hR (related_testBits hR h (related_operandValue hR h _)) _
  | adcImm => exact related_advance hR (related_addOp hR h rfl) _
  | adcZp | adcZpx | adcAbs | adcAbsx | adcAbsy | adcIndx | adcIndy =>
    exact related_advance hR (related_addOp hR h (related_operandValue hR h _)) _
  | sbcImm => exact related_advance hR (related_subOp hR h rfl) _
  | sbcZp | sbcZpx | sbcAbs | sbcAbsx | sbcAbsy | sbcIndx | sbcIndy =>
    exact related_advance hR (related_subOp hR h (related_operandValue hR h _)) _
  | iscZp | iscZpx | iscAbs | iscAbsx | iscAbsy | iscIndx | iscIndy =>
    exact related_advance hR (related_iscMem hR h _) _
  | cmpImm => exact related_advance hR (related_compareOp hR h (hR.reads_a h) rfl) _
  | cmpZp | cmpZpx | cmpAbs | cmpAbsx | cmpAbsy | cmpIndx | cmpIndy =>
    exact related_advance hR (related_compareOp hR h (hR.reads_a h) (related_operandValue hR h _)) _
  | cpxImm => exact related_advance hR (related_compareOp hR h (hR.reads_x h) rfl) _
  | cpxZp | cpxAbs =>
    exact related_advance hR (related_compareOp hR h (hR.reads_x h) (related_operandValue hR h _)) _
  | cpyImm => exact related_advance hR (related_compareOp hR h (hR.reads_y h) rfl) _
  | cpyZp | cpyAbs =>
    exact related_advance hR (related_compareOp hR h (hR.reads_y h) (related_operandValue hR h _)) _
  | aslAcc => exact related_advance hR (related_aslAcc hR h) _
  | aslZp | aslZpx | aslAbs | aslAbsx => exact related_advance hR (related_aslMem hR h _) _
  | lsrAcc => exact related_advance hR (related_lsrAcc hR h) _
  | lsrZp | lsrZpx | lsrAbs | lsrAbsx => exact related_advance hR (related_lsrMem hR h _) _
  | rolAcc => exact related_advance hR (related_rolAcc hR h) _
  | rolZp | rolZpx | rolAbs | rolAbsx => exact related_advance hR (related_rolMem hR h _) _
  | rorAcc => exact related_advance hR (related_rorAcc hR h) _
  | rorZp | rorZpx | rorAbs | rorAbsx => exact related_advance hR (related_rorMem hR h _) _
  | incZp | incZpx | incAbs | incAbsx => exact related_advance hR (related_incMem hR h _) _
  | decZp | decZpx | decAbs | decAbsx => exact related_advance hR (related_decMem hR h _) _
  | inx | dex => exact related_advance hR (related_loadX hR h (by rw [hR.reads_x h])) _
  | iny | dey => exact related_advance hR (related_loadY hR h (by rw [hR.reads_y h])) _
  | bcc => exact related_branch hR h _ (congrArg not (hR.reads_carry h)) _
  | bcs => exact related_branch hR h _ (hR.reads_carry h) _
  | beq => exact related_branch hR h _ (hR.reads_zero h) _
  | bne => exact related_branch hR h _ (congrArg not (hR.reads_zero h)) _
  | bmi => exact related_branch hR h _ (related_minusCondition hR h) _
  | bpl => exact related_branch hR h _ (congrArg not (hR.reads_negative h)) _
  | bvc => exact related_branch hR h _ (congrArg not (hR.reads_overflow h)) _
  | bvs => exact related_branch hR h _ (hR.reads_overflow h) _
  | jmpAbs => exact related_transfer hR (hR.keeps_setPc _ h) _
  | jmpInd ptr =>
    have hpc : R (s.setPc (indirectTarget ptr s)) (s'.setPc (indirectTarget ptr s')) :=
      related_indirectTarget hR h ptr ▸ hR.keeps_setPc _ h
    exact related_transfer hR hpc _
  | jsr => exact related_transfer hR (related_callSubroutine hR h _) _
  | rts => exact related_transfer hR (related_returnFromSubroutine hR h) _
  | rti => exact related_transfer hR (related_returnFromTrap hR h) _
  | clc | cld | cli | clv | sec | sed | sei => exact related_advance hR (hR.keeps_setFlag _ _ h) _
  | brk => exact related_transfer hR (hR.keeps_setRun _ (related_takeBreak hR h (hpush (by decide)))) _
  | nop => exact related_advance hR h _

end

end Sys2Proof.Machine
end

section
/-! PROOF. The cycle counter is charged and never read (10_state.md R30, 60_exceptions.md R310). -/

namespace Sys2Proof.Machine

theorem MnemonicEffect.cycles_le {m : Mnemonic} {s u : State} (h : MnemonicEffect s m u) :
    s.cycles ≤ u.cycles := by
  cases h with
  | branchTaken => exact Nat.le_succ _
  | _ => simp

theorem exec_cycles_le {i : Instr} {s t : State} (h : exec i s = .next t) : s.cycles ≤ t.cycles := by
  obtain ⟨u, heffect, hadvance | htransfer⟩ := exec_cases h
  · rw [(advance_next_iff i u t).1 hadvance]
    exact heffect.cycles_le.trans (Nat.le_add_right _ _)
  · rw [(transfer_next_iff i u t).1 htransfer]
    exact heffect.cycles_le.trans (Nat.le_add_right _ _)

/-- `s'` is `s` with another counter, which started at `n` where that of `s` started at `m`. -/
def SameButCycles (m n : Nat) (s s' : State) : Prop :=
  ∃ c, s' = s.setCycles c ∧ s.cycles + n = c + m

theorem sameButCycles_isTwoRunRelation (m n : Nat) : IsTwoRunRelation (SameButCycles m n) where
  reads_a := by rintro s _ ⟨c, rfl, -⟩; rfl
  reads_x := by rintro s _ ⟨c, rfl, -⟩; rfl
  reads_y := by rintro s _ ⟨c, rfl, -⟩; rfl
  reads_sp := by rintro s _ ⟨c, rfl, -⟩; rfl
  reads_pc := by rintro s _ ⟨c, rfl, -⟩; rfl
  reads_mem := by rintro s _ ⟨c, rfl, -⟩; rfl
  reads_profile := by rintro s _ ⟨c, rfl, -⟩; rfl
  reads_carry := by rintro s _ ⟨c, rfl, -⟩; rfl
  reads_zero := by rintro s _ ⟨c, rfl, -⟩; rfl
  reads_overflow := by rintro s _ ⟨c, rfl, -⟩; rfl
  reads_negative := by rintro s _ ⟨c, rfl, -⟩; rfl
  keeps_setA v := by rintro ⟨c, rfl, hc⟩; exact ⟨c, rfl, hc⟩
  keeps_setX v := by rintro ⟨c, rfl, hc⟩; exact ⟨c, rfl, hc⟩
  keeps_setY v := by rintro ⟨c, rfl, hc⟩; exact ⟨c, rfl, hc⟩
  keeps_setSp v := by rintro ⟨c, rfl, hc⟩; exact ⟨c, rfl, hc⟩
  keeps_setPc v := by rintro ⟨c, rfl, hc⟩; exact ⟨c, rfl, hc⟩
  keeps_setMem m := by rintro ⟨c, rfl, hc⟩; exact ⟨c, rfl, hc⟩
  keeps_setRun r := by rintro ⟨c, rfl, hc⟩; exact ⟨c, rfl, hc⟩
  keeps_setFlag f v := by rintro ⟨c, rfl, hc⟩; exact ⟨c, rfl, hc⟩
  keeps_pulledStatus pr v := by rintro ⟨c, rfl, hc⟩; exact ⟨c, rfl, hc⟩
  keeps_charge k := by
    rintro ⟨c, rfl, hc⟩
    exact ⟨c + k, rfl, by rw [charge_cycles]; omega⟩

/-- Settles O20: by the two-run rule the two next states differ in the counter alone, by as much as the
states before did, and what is charged is never negative. -/
theorem cyclesAreNeverRead : Obligations.CyclesAreNeverRead := by
  intro i s n
  have hstart : SameButCycles s.cycles n s (s.setCycles n) := ⟨n, rfl, Nat.add_comm _ _⟩
  obtain ⟨t, _, ht, ht', c, rfl, hc⟩ :=
    related_exec (sameButCycles_isTwoRunRelation s.cycles n) hstart i (.inr rfl)
  obtain ⟨d, hd⟩ := Nat.exists_eq_add_of_le (exec_cycles_le ht)
  have hcd : c = n + d := by omega
  exact ⟨t, d, ht, hd, hcd ▸ ht'⟩

end Sys2Proof.Machine
end

section
/-! PROOF. I, D, B and U are stored and pushed, and nothing else reads them (10_state.md R25,
43_logical_arith.md R174). -/

namespace Sys2Proof.Machine

/-- `s'` is `s` but for P, and there the flag `f` alone may differ. -/
def SameButFlag (f : Flag) (s s' : State) : Prop :=
  ∃ p, s' = s.setP p ∧ ∀ g, g ≠ f → flag g (s.setP p) = flag g s

/-- The flags that are stored only. -/
def storedOnlyFlags : List Flag := [.interruptDisable, .decimal, .brk, .unused]

theorem sameButFlag_isTwoRunRelation {f : Flag}
    (hf : f ∈ storedOnlyFlags) : IsTwoRunRelation (SameButFlag f) where
  reads_a := by rintro s _ ⟨p, rfl, -⟩; rfl
  reads_x := by rintro s _ ⟨p, rfl, -⟩; rfl
  reads_y := by rintro s _ ⟨p, rfl, -⟩; rfl
  reads_sp := by rintro s _ ⟨p, rfl, -⟩; rfl
  reads_pc := by rintro s _ ⟨p, rfl, -⟩; rfl
  reads_mem := by rintro s _ ⟨p, rfl, -⟩; rfl
  reads_profile := by rintro s _ ⟨p, rfl, -⟩; rfl
  reads_carry := by rintro s _ ⟨p, rfl, hp⟩; exact hp _ (by rintro rfl; exact absurd hf (by decide))
  reads_zero := by rintro s _ ⟨p, rfl, hp⟩; exact hp _ (by rintro rfl; exact absurd hf (by decide))
  reads_overflow := by rintro s _ ⟨p, rfl, hp⟩; exact hp _ (by rintro rfl; exact absurd hf (by decide))
  reads_negative := by rintro s _ ⟨p, rfl, hp⟩; exact hp _ (by rintro rfl; exact absurd hf (by decide))
  keeps_setA v := by rintro ⟨p, rfl, hp⟩; exact ⟨p, rfl, hp⟩
  keeps_setX v := by rintro ⟨p, rfl, hp⟩; exact ⟨p, rfl, hp⟩
  keeps_setY v := by rintro ⟨p, rfl, hp⟩; exact ⟨p, rfl, hp⟩
  keeps_setSp v := by rintro ⟨p, rfl, hp⟩; exact ⟨p, rfl, hp⟩
  keeps_setPc v := by rintro ⟨p, rfl, hp⟩; exact ⟨p, rfl, hp⟩
  keeps_setMem m := by rintro ⟨p, rfl, hp⟩; exact ⟨p, rfl, hp⟩
  keeps_setRun r := by rintro ⟨p, rfl, hp⟩; exact ⟨p, rfl, hp⟩
  keeps_charge n := by rintro ⟨p, rfl, hp⟩; exact ⟨p, rfl, hp⟩
  keeps_setFlag {s _} g v := by
    rintro ⟨p, rfl, hp⟩
    refine ⟨_, rfl, fun e he => ?_⟩
    change flag e (setFlag g v (s.setP p)) = flag e (setFlag g v s)
    rw [flag_setFlag, flag_setFlag, hp e he]
  keeps_pulledStatus {s _} pr v := by
    rintro ⟨p, rfl, hp⟩
    refine ⟨_, rfl, fun e he => ?_⟩
    change getBit (pulledStatus pr v p) (flagBit e) = getBit (pulledStatus pr v s.p) (flagBit e)
    have hbit : getBit p (flagBit e) = getBit s.p (flagBit e) := hp e he
    rw [getBit_pulledStatus, getBit_pulledStatus, hbit]

/-- States that differ in one flag at most are the same once that flag is written. -/
theorem SameButFlag.setFlag_eq {f : Flag} {s s' : State} (h : SameButFlag f s s') (v : Bool) :
    setFlag f v s = setFlag f v s' := by
  obtain ⟨p, rfl, hp⟩ := h
  have hflags : ∀ g, flag g (setFlag f v s) = flag g (setFlag f v (s.setP p)) := by
    intro g
    rw [flag_setFlag, flag_setFlag]
    split
    next => rfl
    next hg => exact (hp g hg).symm
  exact State.eq_of_fields rfl rfl rfl rfl (p_eq_of_flags hflags) rfl rfl rfl rfl rfl

/-- Settles O19: "equal but for one stored-only flag" is a relation of the two-run rule, so each
instruction but PHP and BRK keeps it. -/
theorem storedOnlyFlagsReachNothingButPushes : Obligations.StoredOnlyFlagsReachNothingButPushes := by
  intro i f v s hm hf
  have hstart : SameButFlag f s (setFlag f v s) :=
    ⟨_, rfl, fun g hg => (flag_setFlag g f v s).trans (if_neg hg)⟩
  obtain ⟨t, u, ht, hu, htu⟩ := related_exec (sameButFlag_isTwoRunRelation hf) hstart i (.inl hm)
  exact ⟨t, u, ht, hu, htu.setFlag_eq false⟩

end Sys2Proof.Machine
end

section
/-! PROOF. Memory keeps its canonical form (10_state.md R31, 20_memory.md section 1), and a canonical memory
is the list of the bytes it reads as. -/

namespace Sys2Proof.Machine

/-- Each mnemonic's memory is the memory before, or that after one, two or three writes. -/
theorem MnemonicEffect.mem_wf {m : Mnemonic} {s u : State} (h : MnemonicEffect s m u) (hs : s.mem.wf) :
    u.mem.wf := by
  cases h with
  | sta | stx | sty | pha | php => exact Memory.write_wf _ _ _ hs
  | isc | aslMem | lsrMem | rolMem | rorMem | inc | dec => simpa using Memory.write_wf _ _ _ hs
  | jsr => exact Memory.write_wf _ _ _ (Memory.write_wf _ _ _ hs)
  | brk => simpa using Memory.write_wf _ _ _ (Memory.write_wf _ _ _ (Memory.write_wf _ _ _ hs))
  | _ => simpa using hs

theorem exec_mem_wf {i : Instr} {s t : State} (hs : s.mem.wf) (h : exec i s = .next t) : t.mem.wf := by
  obtain ⟨u, heffect, hend⟩ := exec_cases h
  have htu : t.mem = u.mem := by rw [ending_eq hend]; rfl
  exact htu ▸ heffect.mem_wf hs

/-- Settles O10: an instruction's memory is the memory before or that after some writes, and an unknown
opcode leaves memory alone. -/
theorem stepKeepsMemoryCanonical : Obligations.StepKeepsMemoryCanonical := by
  intro s t hs h
  obtain ⟨i, _, _, hexec⟩ | ⟨_, _, rfl⟩ := step_cases h
  · exact exec_mem_wf hs hexec
  · exact hs

/-- Settles O11. -/
theorem resetMemoryIsCanonical : Obligations.ResetMemoryIsCanonical := rfl

/-! ## Extensionality -/

theorem Memory.wfFrom_cons {lo k : Nat} {v : Byte} {rest : Memory} :
    Memory.wfFrom lo ((k, v) :: rest) ↔
      lo ≤ k ∧ k < 65536 ∧ v ≠ Config.unlistedByte ∧ Memory.wfFrom (k + 1) rest := by
  simp [Memory.wfFrom, and_assoc]

@[simp] theorem Memory.lookup_cons_same (k : Nat) (v : Byte) (rest : Memory) :
    Memory.lookup ((k, v) :: rest) k = v := if_pos rfl

theorem Memory.lookup_cons_of_ne {k a : Nat} (h : k ≠ a) (v : Byte) (rest : Memory) :
    Memory.lookup ((k, v) :: rest) a = Memory.lookup rest a := if_neg h

/-- Below its first address a canonical memory lists nothing. -/
theorem Memory.lookup_eq_unlisted_of_lt {m : Memory} {lo a : Nat} (hm : Memory.wfFrom lo m) (ha : a < lo) :
    Memory.lookup m a = Config.unlistedByte := by
  induction m generalizing lo with
  | nil => rfl
  | cons e rest ih =>
    obtain ⟨k, v⟩ := e
    obtain ⟨hlo, -, -, hrest⟩ := Memory.wfFrom_cons.1 hm
    rw [Memory.lookup_cons_of_ne (by omega)]
    exact ih hrest (by omega)

/-- The first byte a canonical memory lists is missing from a canonical memory that begins above it. -/
theorem Memory.lookup_head_ne {k j : Nat} {v : Byte} {rest n : Memory} (hv : v ≠ Config.unlistedByte)
    (hn : Memory.wfFrom j n) (hkj : k < j) : Memory.lookup ((k, v) :: rest) k ≠ Memory.lookup n k := by
  rwa [Memory.lookup_cons_same, Memory.lookup_eq_unlisted_of_lt hn hkj]

/-- Induction along both lists. Their first addresses agree, or the lower one tells them apart; at that
address both rests list nothing. -/
theorem Memory.eq_of_lookup_eq {m n : Memory} {lo : Nat} (hm : Memory.wfFrom lo m)
    (hn : Memory.wfFrom lo n) (h : ∀ a < 65536, Memory.lookup m a = Memory.lookup n a) : m = n := by
  induction m generalizing n lo with
  | nil =>
    cases n with
    | nil => rfl
    | cons e n =>
      obtain ⟨j, w⟩ := e
      obtain ⟨-, hj, hw, -⟩ := Memory.wfFrom_cons.1 hn
      exact absurd (h j hj).symm (Memory.lookup_head_ne hw (n := []) rfl (Nat.lt_succ_self j))
  | cons e m ih =>
    obtain ⟨k, v⟩ := e
    obtain ⟨-, hk, hv, hrestm⟩ := Memory.wfFrom_cons.1 hm
    cases n with
    | nil => exact absurd (h k hk) (Memory.lookup_head_ne hv (n := []) rfl (Nat.lt_succ_self k))
    | cons e n =>
      obtain ⟨j, w⟩ := e
      obtain ⟨-, hj, hw, hrestn⟩ := Memory.wfFrom_cons.1 hn
      obtain hkj | rfl | hjk := Nat.lt_trichotomy k j
      · have hn' : Memory.wfFrom j ((j, w) :: n) := Memory.wfFrom_cons.2 ⟨le_rfl, hj, hw, hrestn⟩
        exact absurd (h k hk) (Memory.lookup_head_ne hv hn' hkj)
      · have hvw : v = w := by simpa using h k hk
        have hrest : ∀ a < 65536, Memory.lookup m a = Memory.lookup n a := by
          intro a ha
          by_cases hka : k = a
          · rw [Memory.lookup_eq_unlisted_of_lt hrestm (by omega),
              Memory.lookup_eq_unlisted_of_lt hrestn (by omega)]
          · simpa only [Memory.lookup_cons_of_ne hka] using h a ha
        rw [hvw, ih hrestm hrestn hrest]
      · have hm' : Memory.wfFrom k ((k, v) :: m) := Memory.wfFrom_cons.2 ⟨le_rfl, hk, hv, hrestm⟩
        exact absurd (h j hj).symm (Memory.lookup_head_ne hw hm' hjk)

/-- Settles O12, from the same fact about `lookup`. -/
theorem canonicalMemoriesWithEqualBytesAreEqual : Obligations.CanonicalMemoriesWithEqualBytesAreEqual := by
  intro m n hm hn h
  refine Memory.eq_of_lookup_eq hm hn fun a ha => ?_
  have hread := h (BitVec.ofNat 16 a)
  rwa [Memory.read, Memory.read, BitVec.toNat_ofNat, Nat.mod_eq_of_lt ha] at hread

end Sys2Proof.Machine
end

section
/-! PROOF. Who writes A, X, Y and SP (10_state.md R22, R23, R24, R28). -/

namespace Sys2Proof.Machine

theorem MnemonicEffect.x_eq {m : Mnemonic} {s u : State} (h : MnemonicEffect s m u)
    (hm : m ∉ [.ldx, .tax, .tsx, .inx, .dex]) : u.x = s.x := by
  cases h with
  | ldx | tax | tsx | inx | dex => exact absurd hm (by decide)
  | _ => simp

theorem MnemonicEffect.y_eq {m : Mnemonic} {s u : State} (h : MnemonicEffect s m u)
    (hm : m ∉ [.ldy, .tay, .iny, .dey]) : u.y = s.y := by
  cases h with
  | ldy | tay | iny | dey => exact absurd hm (by decide)
  | _ => simp

theorem MnemonicEffect.sp_eq {m : Mnemonic} {s u : State} (h : MnemonicEffect s m u)
    (hm : m ∉ [.txs, .pha, .php, .pla, .plp, .jsr, .rts, .rti, .brk]) : u.sp = s.sp := by
  cases h with
  | txs | pha | php | pla | plp | jsr | rts | rti | brk => exact absurd hm (by decide)
  | _ => simp

/-- The mnemonics of 45_shift_rotate.md. -/
def shiftMnemonics : List Mnemonic := [.asl, .lsr, .rol, .ror]

theorem MnemonicEffect.a_eq {m : Mnemonic} {s u : State} (h : MnemonicEffect s m u)
    (hm : m ∉ [.lda, .txa, .tya, .pla, .and, .ora, .eor, .adc, .sbc, .isc])
    (hshift : m ∉ shiftMnemonics) : u.a = s.a := by
  cases h with
  | lda | txa | tya | pla | and | ora | eor | adc | sbc | isc => exact absurd hm (by decide)
  | aslAcc | lsrAcc | rolAcc | rorAcc => exact absurd hshift (by decide)
  | _ => simp

theorem advance_a {i : Instr} {s t : State} (h : advance i s = .next t) : t.a = s.a := by
  rw [ending_eq (.inl h)]; rfl

/-- A shift or rotate of a byte of memory leaves A alone (R190 to R193). -/
theorem exec_shift_a {i : Instr} {s t : State} (hm : (rowOf i).mnemonic ∈ shiftMnemonics)
    (hmode : Claims.inAccMode i = false) (h : exec i s = .next t) : t.a = s.a := by
  cases i with
  | aslAcc | lsrAcc | rolAcc | rorAcc => cases hmode
  | aslZp | aslZpx | aslAbs | aslAbsx => exact (advance_a h).trans (aslMem_a _ s)
  | lsrZp | lsrZpx | lsrAbs | lsrAbsx => exact (advance_a h).trans (lsrMem_a _ s)
  | rolZp | rolZpx | rolAbs | rolAbsx => exact (advance_a h).trans (rolMem_a _ s)
  | rorZp | rorZpx | rorAbs | rorAbsx => exact (advance_a h).trans (rorMem_a _ s)
  | _ => exact absurd hm (by simp [rowOf, shiftMnemonics])

/-- Settles O16: the effect of a mnemonic that is not a writer keeps the register, the endings write none,
and a shift in a memory mode keeps A. -/
theorem registersChangeOnlyByTheirWriters : Obligations.RegistersChangeOnlyByTheirWriters := by
  intro i s t h
  obtain ⟨u, heffect, hend⟩ := exec_cases h
  have htu := ending_eq hend
  have hx : t.x = u.x := by rw [htu]; rfl
  have hy : t.y = u.y := by rw [htu]; rfl
  have hsp : t.sp = u.sp := by rw [htu]; rfl
  have ha : t.a = u.a := by rw [htu]; rfl
  refine ⟨fun hne => ?_, fun hne => ?_, fun hne => ?_, fun hne => ?_⟩
  · by_contra hm
    exact hne (hx.trans (heffect.x_eq hm))
  · by_contra hm
    exact hne (hy.trans (heffect.y_eq hm))
  · by_contra hm
    exact hne (hsp.trans (heffect.sp_eq hm))
  · by_cases hshift : (rowOf i).mnemonic ∈ shiftMnemonics
    · refine .inr ⟨hshift, ?_⟩
      by_contra hmode
      exact hne (exec_shift_a hshift (Bool.eq_false_of_not_eq_true hmode) h)
    · refine .inl ?_
      by_contra hm
      exact hne (ha.trans (heffect.a_eq hm hshift))

end Sys2Proof.Machine
end

section
/-! PROOF. Who writes each bit of P, profile by profile (10_state.md R25, R26 and section 3). -/

namespace Sys2Proof.Machine

open Sys2Proof.Claims

/-- No flag but those listed differs between `s` and `u`. -/
def ChangesOnly (fs : List Flag) (s u : State) : Prop := ∀ f, f ∉ fs → flag f u = flag f s

theorem changesOnly_of_p_eq {s u : State} (h : u.p = s.p) : ChangesOnly [] s u := fun f _ => by
  rw [flag, flag, h]

theorem changesOnly_setZN (v : Byte) (s : State) : ChangesOnly [.zero, .negative] s (setZN v s) := by
  intro f hf
  simp_all [flag_setZN]

theorem changesOnly_loadA (m : Byte) (s : State) : ChangesOnly [.zero, .negative] s (loadA m s) :=
  changesOnly_setZN m (s.setA m)

theorem changesOnly_loadX (m : Byte) (s : State) : ChangesOnly [.zero, .negative] s (loadX m s) :=
  changesOnly_setZN m (s.setX m)

theorem changesOnly_loadY (m : Byte) (s : State) : ChangesOnly [.zero, .negative] s (loadY m s) :=
  changesOnly_setZN m (s.setY m)

theorem changesOnly_setFlag (g : Flag) (v : Bool) (s : State) : ChangesOnly [g] s (setFlag g v s) := by
  intro f hf
  simp_all [flag_setFlag]

theorem changesOnly_testBits (m : Byte) (s : State) :
    ChangesOnly [.zero, .overflow, .negative] s (testBits m s) := by
  intro f hf
  simp_all [flag_testBits]

theorem changesOnly_shiftFlags (c : Bool) (r : Byte) (s : State) :
    ChangesOnly [.carry, .zero, .negative] s (shiftFlags c r s) := by
  intro f hf
  simp_all [flag_shiftFlags]

theorem changesOnly_addOpNmos (m : Byte) (s : State) :
    ChangesOnly [.carry, .overflow, .zero, .negative] s (addOpNmos m s) := by
  intro f hf
  simp_all [addOpNmos, flag_loadA, flag_setFlag]

theorem changesOnly_addOp (m : Byte) (s : State) :
    ChangesOnly [.carry, .overflow, .zero, .negative] s (addOp m s) := by
  unfold addOp
  split
  · intro f hf
    simp_all [flag_loadA, setOverflowAdd, setCarryFlag, flag_setFlag]
  · exact changesOnly_addOpNmos m s

theorem changesOnly_subOp (m : Byte) (s : State) :
    ChangesOnly [.carry, .overflow, .zero, .negative] s (subOp m s) := by
  unfold subOp
  split
  · intro f hf
    simp_all [flag_loadA, setOverflowSub, setCarryFlag, flag_setFlag]
  · exact changesOnly_addOpNmos _ s

/-- The flags a compare writes (R180). -/
def compareFlags : Profile → List Flag
  | .source => [.carry, .zero]
  | .nmos => [.carry, .zero, .negative]

theorem changesOnly_compareOp (r m : Byte) (s : State) :
    ChangesOnly (compareFlags s.profile) s (compareOp r m s) := by
  intro f hf
  cases hpr : s.profile <;> simp_all [compareOp, compareFlags, flag_setFlag]

/-- The flags PLP and RTI write (R159, R223). -/
def pulledFlags : Profile → List Flag
  | .source => [.carry, .zero, .interruptDisable, .decimal, .brk, .unused, .overflow, .negative]
  | .nmos => [.carry, .zero, .interruptDisable, .decimal, .overflow, .negative]

theorem changesOnly_of_pulledStatus {s u : State} (v : Byte) (hu : u.p = pulledStatus s.profile v s.p) :
    ChangesOnly (pulledFlags s.profile) s u := by
  intro f hf
  rw [flag, flag, hu, getBit_pulledStatus]
  cases hpr : s.profile <;> cases f <;> simp_all [pulledFlags]

/-- The flags BRK writes (R237). -/
def breakFlags : Profile → List Flag
  | .source => [.brk]
  | .nmos => [.brk, .interruptDisable]

theorem flag_takeBreak (f : Flag) (s : State) : flag f (takeBreak s) =
    (if f = .brk then true else if f = .interruptDisable ∧ s.profile = .nmos then true else flag f s) := by
  have hpushed : flag f (push8 (brokenStatus s.profile s.p) (push16 (s.pc + 2#16) s)) = flag f s := rfl
  rw [takeBreak, flag_setPc, flag_markBroken, hpushed]
  rfl

theorem changesOnly_takeBreak (s : State) : ChangesOnly (breakFlags s.profile) s (takeBreak s) := by
  intro f hf
  rw [flag_takeBreak]
  cases hpr : s.profile <;> simp_all [breakFlags]

/-- Each mnemonic's effect changes flags of its own column of R25 only. -/
theorem MnemonicEffect.changesOnly {m : Mnemonic} {s u : State} (h : MnemonicEffect s m u) :
    ∃ fs, ChangesOnly fs s u ∧ ∀ f ∈ fs, m ∈ flagWriters s.profile f := by
  cases h with
  | lda | txa | tya | and | ora | eor =>
    exact ⟨_, changesOnly_loadA _ s, by simp [flagWriters, znWriters]⟩
  | pla => exact ⟨_, changesOnly_loadA _ (pull8 s), by simp [flagWriters, znWriters]⟩
  | ldx | tax | tsx | inx | dex => exact ⟨_, changesOnly_loadX _ s, by simp [flagWriters, znWriters]⟩
  | ldy | tay | iny | dey => exact ⟨_, changesOnly_loadY _ s, by simp [flagWriters, znWriters]⟩
  | inc o => exact ⟨_, changesOnly_setZN _ (storeOperand o _ s), by simp [flagWriters, znWriters]⟩
  | dec o => exact ⟨_, changesOnly_setZN _ (storeOperand o _ s), by simp [flagWriters, znWriters]⟩
  | bit => exact ⟨_, changesOnly_testBits _ s, by simp [flagWriters, znWriters]⟩
  | adc => exact ⟨_, changesOnly_addOp _ s, by simp [flagWriters, znWriters]⟩
  | sbc => exact ⟨_, changesOnly_subOp _ s, by simp [flagWriters, znWriters]⟩
  | isc o => exact ⟨_, changesOnly_subOp _ (storeOperand o _ s), by simp [flagWriters, znWriters]⟩
  | cmp | cpx | cpy =>
    refine ⟨_, changesOnly_compareOp _ _ s, ?_⟩
    cases s.profile <;> simp [compareFlags, flagWriters, znWriters]
  | aslAcc | lsrAcc | rolAcc | rorAcc | aslMem | lsrMem | rolMem | rorMem =>
    exact ⟨_, changesOnly_shiftFlags _ _ s, by simp [flagWriters, znWriters]⟩
  | plp | rti =>
    refine ⟨_, changesOnly_of_pulledStatus (pulled8 s) rfl, ?_⟩
    cases s.profile <;> simp [pulledFlags, flagWriters, znWriters]
  | brk =>
    refine ⟨_, changesOnly_takeBreak s, ?_⟩
    cases s.profile <;> simp [breakFlags, flagWriters]
  | clc | cld | cli | clv | sec | sed | sei =>
    exact ⟨_, changesOnly_setFlag _ _ s, by simp [flagWriters]⟩
  | sta | stx | sty | txs | pha | php | branchTaken | branchNotTaken | jmp | jsr | rts | nop =>
    exact ⟨[], changesOnly_of_p_eq (by simp), by simp⟩

/-- Settles O17: the endings write no flag, and each mnemonic's effect only flags of its column. -/
theorem flagsChangeOnlyByTheirWriters : Obligations.FlagsChangeOnlyByTheirWriters := by
  intro i s t f h hne
  obtain ⟨u, heffect, hend⟩ := exec_cases h
  obtain ⟨fs, honly, hwriters⟩ := heffect.changesOnly
  have htu : flag f t = flag f u := by rw [ending_eq hend]; rfl
  refine hwriters f ?_
  by_contra hf
  exact hne (htu.trans (honly f hf))

end Sys2Proof.Machine
end

section
/-! PROOF. The stack in page 1 (10_state.md R28, 40_execution_core.md R125). -/

namespace Sys2Proof.Machine

open Sys2Proof.Claims

/-- `0x0100 | SP` is `0x0100 + SP` (R28). -/
theorem stackAddress_eq_ofNat (sp : Byte) : stackAddress sp = BitVec.ofNat 16 (256 + sp.toNat) := by
  rw [← stackAddress_toNat, BitVec.ofNat_toNat, BitVec.setWidth_eq]

theorem byteStored_push8 (v : Byte) (s : State) : ByteStored s (push8 v s) (stackAddress s.sp) v :=
  ⟨Memory.read_write_same _ _ _, fun _ hb => Memory.read_write_other _ _ hb⟩

/-- A pull right after a push gives the byte pushed (R125). -/
@[simp] theorem pulled8_push8 (v : Byte) (s : State) : pulled8 (push8 v s) = v := by
  rw [pulled8, push8_sp, BitVec.sub_add_cancel]
  exact (byteStored_push8 v s).1

/-- Settles O26. -/
theorem pushAndPullStayInPageOne : Obligations.PushAndPullStayInPageOne := by
  intro v s
  have hpull : (s.sp + 1#8).toNat = (s.sp.toNat + 1) % 256 := BitVec.toNat_add _ _
  refine ⟨?_, ?_, hpull, ?_, ?_, fun _ => rfl, pulled8_push8 v s, BitVec.sub_add_cancel _ _⟩
  · rw [← stackAddress_eq_ofNat]
    exact byteStored_push8 v s
  · rw [push8_sp, BitVec.toNat_sub, Nat.add_comm]
    rfl
  · rw [pulled8, stackAddress_eq_ofNat, hpull]
  · rintro t (rfl | rfl) <;> exact ⟨rfl, rfl, rfl, rfl, rfl, rfl, rfl, rfl⟩

end Sys2Proof.Machine
end

section
/-! PROOF. The two ends of a run (10_state.md R32, 70_reset_and_hazards.md R413), the start of one (R34, R402),
and the bits of P (R25, R27). -/

namespace Sys2Proof.Machine

open Sys2Proof.Claims

theorem step_of_halted {s : State} (h : s.run = .halted) : step s = .refused .runHalted := by
  simp only [step, h]

theorem step_of_faulted {s : State} {op : Byte} {addr : Word} (h : s.run = .faulted op addr) :
    step s = .fault (.unknownOpcode op addr) := by
  simp only [step, h]

/-- Settles O9. -/
theorem noStepAfterTheEndOfTheRun : Obligations.NoStepAfterTheEndOfTheRun :=
  ⟨fun _ _ hrun h => hrun (running_of_step h), fun _ => step_of_halted, fun _ _ _ => step_of_faulted⟩

theorem flag_eq_getLsbD (f : Flag) (s : State) : flag f s = s.p.getLsbD (flagBit f) :=
  getBit_eq_getLsbD s.p (flagBit f)

theorem flagsBecome_setFlag (f : Flag) (v : Bool) (s : State) : FlagsBecome s (setFlag f v s) [(f, v)] := by
  intro g
  rw [flag_setFlag]
  by_cases hg : g = f
  · subst hg
    simp
  · have hne : (g == f) = false := beq_eq_false_iff_ne.2 hg
    simp [List.lookup, hne, hg]

/-- Settles O22: `setBit` and `clearBit` are `putBit` of 1 and of 0. -/
theorem flagsStandAtTheirBits : Obligations.FlagsStandAtTheirBits := by
  refine ⟨fun s => ?_, fun b pos q => ⟨getBit_eq_getLsbD b pos, ?_, ?_⟩, flagsBecome_setFlag⟩
  · exact ⟨flag_eq_getLsbD .carry s, flag_eq_getLsbD .zero s, flag_eq_getLsbD .interruptDisable s,
      flag_eq_getLsbD .decimal s, flag_eq_getLsbD .brk s, flag_eq_getLsbD .unused s,
      flag_eq_getLsbD .overflow s, flag_eq_getLsbD .negative s⟩
  · have hset : getBit (setBit b pos) q = if q = pos then true else getBit b q :=
      getBit_putBit b pos q true
    rw [hset]
    by_cases hq : q = pos <;> simp [hq]
  · have hclear : getBit (clearBit b pos) q = if q = pos then false else getBit b q :=
      getBit_putBit b pos q false
    rw [hclear]
    by_cases hq : q = pos <;> simp [hq]

/-- The launch value of P has I and U set and no other bit (R402). -/
theorem flag_reset (f : Flag) : flag f State.reset = (f == .interruptDisable || f == .unused) := by
  cases f <;> decide

/-- Settles O56; SOURCE is the default of PROFILE (00_scope.md R8, R9; log entry 1). -/
theorem resetIsTheStartOfARun : Obligations.ResetIsTheStartOfARun :=
  ⟨rfl, rfl, rfl, rfl, rfl, flag_reset⟩

end Sys2Proof.Machine
end

section
/-! PROOF. The encoding of an instruction stands in the opcode map, decodes to it, and is what a fetch at PC
reads once it is stored there (30_encoding.md R70, R71, R74; 20_memory.md R56, R59). -/

namespace Sys2Proof

/-- `EncodesTo i bs`: the opcode map has a cell for the first byte of `bs`, and that cell makes `i` of the
bytes after it. `encode_encodesTo` ties this to `encode`. -/
inductive EncodesTo : Instr → List Byte → Prop
  | plain {op : Byte} {i : Instr} (h : entryOf op = .plain i) : EncodesTo i [op]
  | byte {op : Byte} {f : Byte → Instr} (h : entryOf op = .byte f) (b : Byte) : EncodesTo (f b) [op, b]
  | word {op : Byte} {f : Word → Instr} (h : entryOf op = .word f) (w : Word) :
      EncodesTo (f w) [op, loByte w, hiByte w]

/-- Each row of the encoder agrees with its cell of the opcode map (R74). -/
theorem encode_encodesTo (i : Instr) : EncodesTo i (encode i) := by
  cases i with
  | tax | tay | tsx | txa | txs | tya | pha | php | pla | plp | aslAcc | lsrAcc | rolAcc | rorAcc | inx
  | iny | dex | dey | rts | rti | clc | cld | cli | clv | sec | sed | sei | brk | nop => exact .plain rfl
  | ldaAbs | ldaAbsx | ldaAbsy | ldxAbs | ldxAbsy | ldyAbs | ldyAbsx | staAbs | staAbsx | staAbsy | stxAbs
  | styAbs | andAbs | andAbsx | andAbsy | oraAbs | oraAbsx | oraAbsy | eorAbs | eorAbsx | eorAbsy | bitAbs
  | adcAbs | adcAbsx | adcAbsy | sbcAbs | sbcAbsx | sbcAbsy | iscAbs | iscAbsx | iscAbsy | cmpAbs | cmpAbsx
  | cmpAbsy | cpxAbs | cpyAbs | aslAbs | aslAbsx | lsrAbs | lsrAbsx | rolAbs | rolAbsx | rorAbs | rorAbsx
  | incAbs | incAbsx | decAbs | decAbsx | jmpAbs | jmpInd | jsr => exact .word rfl _
  | _ => exact .byte rfl _

theorem EncodesTo.length_le {i : Instr} {bs : List Byte} (h : EncodesTo i bs) : bs.length ≤ 3 := by
  cases h <;> simp

/-- The decoder looks the first byte up in the same map. -/
theorem EncodesTo.decode_append {i : Instr} {bs : List Byte} (h : EncodesTo i bs) (rest : List Byte) :
    decode (bs ++ rest) = .ok (i, rest) := by
  cases h with
  | plain h => simp [decode, h]
  | byte h b => simp [decode, h]
  | word h w => simp [decode, h]

theorem decode_encode_append (i : Instr) (rest : List Byte) : decode (encode i ++ rest) = .ok (i, rest) :=
  (encode_encodesTo i).decode_append rest

theorem encode_length_le (i : Instr) : (encode i).length ≤ 3 := (encode_encodesTo i).length_le

end Sys2Proof

namespace Sys2Proof.Machine

/-- A running step whose fetched bytes decode to `i` is `exec i` (R101). -/
theorem step_of_decode {s : State} {i : Instr} {rest : List Byte} (hrun : s.run = .running)
    (hd : decode (fetchBytes s) = .ok (i, rest)) : step s = exec i s := by
  simp only [step, hrun, hd]

/-- A fetch reads the bytes stored from PC on, then what stood there before: PC, PC + 1 and PC + 2 are three
addresses, even where they wrap (20_memory.md R56). -/
theorem fetchBytes_storeBytes {bs : List Byte} (h : bs.length ≤ 3) (s : State) :
    fetchBytes (storeBytes s.pc bs s) = bs ++ (fetchBytes s).drop bs.length := by
  have h01 : s.pc ≠ s.pc + 1#16 := by bv_omega
  have h02 : s.pc ≠ s.pc + 2#16 := by bv_omega
  have h12 : s.pc + 1#16 ≠ s.pc + 2#16 := by bv_omega
  have hnext : s.pc + 1#16 + 1#16 = s.pc + 2#16 := by bv_omega
  match bs, h with
  | [], _ => rfl
  | [_], _ => simp [fetchBytes, storeBytes, loadByte_storeByte]
  | [_, _], _ => simp [fetchBytes, storeBytes, loadByte_storeByte, h01, h12.symm]
  | [_, _, _], _ => simp [fetchBytes, storeBytes, loadByte_storeByte, hnext, h01, h02, h12]

/-- Settles O7: the next fetch reads the encoding placed at PC, and that decodes to its instruction. -/
theorem stepRunsAnInstructionPlacedAtPc : Obligations.StepRunsAnInstructionPlacedAtPc := by
  intro s i hrun
  have hfetch := fetchBytes_storeBytes (encode_length_le i) s
  exact step_of_decode ((storeBytes_run _ _ s).trans hrun) (hfetch ▸ decode_encode_append i _)

end Sys2Proof.Machine
end

section
/-! PROOF. The memory after an instruction: its stores, and every other byte as before (20_memory.md R54, R55,
R59, 40_execution_core.md R127). -/

namespace Sys2Proof.Machine

open Sys2Proof.Claims

/-! ## Several writes -/

/-- The values `vs` written at the addresses `as`, in that order. -/
def Memory.writeAll (m : Memory) (as : List Word) (vs : List Byte) : Memory :=
  (as.zip vs).foldl (fun m e => Memory.write m e.1 e.2) m

theorem Memory.writeAll_cons (m : Memory) (a : Word) (as : List Word) (v : Byte) (vs : List Byte) :
    Memory.writeAll m (a :: as) (v :: vs) = Memory.writeAll (Memory.write m a v) as vs := rfl

theorem lookup_zip_of_not_mem {a : Word} {as : List Word} (h : a ∉ as) (vs : List Byte) :
    (as.zip vs).lookup a = none := by
  refine List.lookup_eq_none_iff.2 fun e he => ?_
  have hmem : e.1 ∈ as := (List.of_mem_zip he).1
  exact bne_iff_ne.2 fun hae => h (hae ▸ hmem)

/-- A read after writes at different addresses: the value written there, else the byte before. -/
theorem Memory.read_writeAll (m : Memory) {as : List Word} (has : as.Nodup) (vs : List Byte) (b : Word) :
    Memory.read (Memory.writeAll m as vs) b = ((as.zip vs).lookup b).getD (Memory.read m b) := by
  induction as generalizing m vs with
  | nil => rfl
  | cons a as ih =>
    cases vs with
    | nil => rfl
    | cons v vs =>
      obtain ⟨ha, has⟩ := List.nodup_cons.1 has
      rw [Memory.writeAll_cons, ih _ has, Memory.read_write]
      by_cases hb : b = a
      · subst hb
        simp [lookup_zip_of_not_mem ha]
      · simp [List.lookup_cons, beq_eq_false_iff_ne.2 hb, hb]

theorem nodup_of_length_le_one {as : List Word} (h : as.length ≤ 1) : as.Nodup := by
  match as, h with
  | [], _ => exact List.nodup_nil
  | [a], _ => exact List.nodup_singleton a

/-! ## The results of shifts and rotates, as numbers (R190 to R193) -/

theorem aslOf_eq_aslValue (v : Byte) : aslOf v = aslValue v := by
  apply BitVec.eq_of_toNat_eq
  simp [aslOf, aslValue, Nat.shiftLeft_eq, Nat.mul_comm]

theorem lsrOf_eq_lsrValue (v : Byte) : lsrOf v = lsrValue v := by
  apply BitVec.eq_of_toNat_eq
  simp [lsrOf, lsrValue, Nat.shiftRight_eq_div_pow]
  omega

theorem rolOf_eq_rolValue (v : Byte) (s : State) : rolOf v (flag .carry s) = rolValue v s := by
  have h : ∀ (v : Byte) (c : Bool), rolOf v c = BitVec.ofNat 8 (2 * v.toNat + if c then 1 else 0) := by
    decide
  exact h v _

theorem rorOf_eq_rorValue (v : Byte) (s : State) : rorOf v (flag .carry s) = rorValue v s := by
  have h : ∀ (v : Byte) (c : Bool), rorOf v c = BitVec.ofNat 8 (v.toNat / 2 + 128 * if c then 1 else 0) := by
    decide
  exact h v _

/-! ## The bytes pushed, by profile -/

theorem pushedStatus_eq (pr : Profile) (p : Byte) :
    pushedStatus pr p = if pr = .source then p else p ||| 0x30#8 := by
  cases pr <;> rfl

theorem brokenStatus_eq (pr : Profile) (p : Byte) :
    brokenStatus pr p = p ||| (if pr = .source then 0x10#8 else 0x30#8) := by
  cases pr <;> rfl

theorem returnOffset_eq (pr : Profile) : returnOffset pr = if pr = .source then 1#16 else 2#16 := by
  cases pr <;> rfl

/-! ## The stores of an instruction -/

/-- The mnemonics that store, in one of their modes at least. -/
def storingMnemonics : List Mnemonic :=
  [.sta, .stx, .sty, .pha, .php, .isc, .asl, .lsr, .rol, .ror, .inc, .dec, .jsr, .brk]

theorem MnemonicEffect.mem_eq {m : Mnemonic} {s u : State} (h : MnemonicEffect s m u)
    (hm : m ∉ storingMnemonics) : u.mem = s.mem := by
  cases h with
  | sta | stx | sty | pha | php | isc | aslAcc | aslMem | lsrAcc | lsrMem | rolAcc | rolMem | rorAcc
  | rorMem | inc | dec | jsr | brk => exact absurd hm (by decide)
  | _ => simp

theorem ending_mem {i : Instr} {u t : State} (h : advance i u = .next t ∨ transfer i u = .next t) :
    t.mem = u.mem := by
  rw [ending_eq h]; rfl

theorem exec_mem_eq {i : Instr} {s t : State} (hm : (rowOf i).mnemonic ∉ storingMnemonics)
    (h : exec i s = .next t) : t.mem = s.mem := by
  obtain ⟨u, heffect, hend⟩ := exec_cases h
  exact (ending_mem hend).trans (heffect.mem_eq hm)

/-- The memory after an instruction is that before, with its stores made in order. -/
theorem exec_mem {i : Instr} {s t : State} (h : exec i s = .next t) :
    t.mem = Memory.writeAll s.mem (storedAddresses i s) (storedValues i s) := by
  cases i with
  | staZp | staZpx | staAbs | staAbsx | staAbsy | staIndx | staIndy
  | stxZp | stxZpy | stxAbs | styZp | styZpx | styAbs
  | incZp | incZpx | incAbs | incAbsx | decZp | decZpx | decAbs | decAbsx | pha => exact ending_mem (.inl h)
  | iscZp | iscZpx | iscAbs | iscAbsx | iscAbsy | iscIndx | iscIndy =>
    exact (ending_mem (.inl h)).trans (iscMem_mem _ s)
  | aslZp | aslZpx | aslAbs | aslAbsx =>
    rw [ending_mem (.inl h), aslMem_mem, aslOf_eq_aslValue]; rfl
  | lsrZp | lsrZpx | lsrAbs | lsrAbsx =>
    rw [ending_mem (.inl h), lsrMem_mem, lsrOf_eq_lsrValue]; rfl
  | rolZp | rolZpx | rolAbs | rolAbsx =>
    rw [ending_mem (.inl h), rolMem_mem, rolOf_eq_rolValue]; rfl
  | rorZp | rorZpx | rorAbs | rorAbsx =>
    rw [ending_mem (.inl h), rorMem_mem, rorOf_eq_rorValue]; rfl
  | aslAcc => exact (ending_mem (.inl h)).trans (aslAcc_mem s)
  | lsrAcc => exact (ending_mem (.inl h)).trans (lsrAcc_mem s)
  | rolAcc => exact (ending_mem (.inl h)).trans (rolAcc_mem s)
  | rorAcc => exact (ending_mem (.inl h)).trans (rorAcc_mem s)
  | php => rw [ending_mem (.inl h), push8_mem, pushedStatus_eq]; rfl
  | jsr => rw [ending_mem (.inr h), callSubroutine_mem, push16_mem, returnOffset_eq]; rfl
  | brk => rw [ending_mem (.inr h), halt_mem, takeBreak_mem, push16_mem, brokenStatus_eq]; rfl
  | _ => exact exec_mem_eq (by simp [rowOf, storingMnemonics]) h

/-- Three pushes in a row go to different bytes, where SP wraps too (R28). -/
theorem stackAddresses_nodup (sp : Byte) :
    [stackAddress sp, stackAddress (sp - 1#8), stackAddress (sp - 2#8)].Nodup := by
  have h1 : sp ≠ sp - 1#8 := by bv_omega
  have h2 : sp ≠ sp - 2#8 := by bv_omega
  have h12 : sp - 1#8 ≠ sp - 2#8 := by bv_omega
  simp [h1, h2, h12]

/-- An instruction stores to no address twice. -/
theorem storedAddresses_nodup (i : Instr) (s : State) : (storedAddresses i s).Nodup := by
  cases i with
  | jsr =>
    have htwo := (stackAddresses_nodup s.sp).sublist (List.take_sublist 2 _)
    exact htwo
  | brk => exact stackAddresses_nodup s.sp
  | _ => exact nodup_of_length_le_one (Nat.le_of_ble_eq_true rfl)

/-- The byte at `a` after an instruction is the value it stores there, or the byte before. -/
theorem loadByte_exec {i : Instr} {s t : State} (h : exec i s = .next t) (a : Word) :
    loadByte a t = byteAfter i s a := by
  rw [loadByte, exec_mem h, Memory.read_writeAll _ (storedAddresses_nodup i s)]
  rfl

/-- Settles O18: a byte with no store at its address is, after the instruction, the byte before. -/
theorem memoryChangesOnlyWhereTheInstructionStores :
    Obligations.MemoryChangesOnlyWhereTheInstructionStores := by
  intro i s t h a ha
  rw [loadByte_exec h, byteAfter, lookup_zip_of_not_mem ha]
  rfl

/-- Every instruction answers a next state; the two-run rule behind O20 gives it (R302, R309). -/
theorem exec_completes (i : Instr) (s : State) : ∃ t, exec i s = .next t :=
  let ⟨t, _, ht, _⟩ := cyclesAreNeverRead i s 0
  ⟨t, ht⟩

/-- Settles O55: the next fetch reads the memory after the stores, and what was fetched before them is
decoded already. -/
theorem storesAreSeenByTheNextFetch : Obligations.StoresAreSeenByTheNextFetch := by
  intro i s
  obtain ⟨t, ht⟩ := exec_completes i s
  refine ⟨t, ht, loadByte_exec ht, ?_, fun hrun _ hd => (step_of_decode hrun hd).trans ht⟩
  simp only [fetchBytes, loadByte_exec ht]

end Sys2Proof.Machine
end

section
/-! PROOF. The opcode byte alone: the encodings its cell of the opcode map stands for, the row it fixes, and the 98
bytes that have none (30_encoding.md R70, R71, R74, R79). -/

namespace Sys2Proof

/-- What the encoder writes for the instruction of a cell, its operand taken from `w`. -/
def Entry.encoding (w : Word) : Entry → List Byte
  | .none => []
  | .plain i => encode i
  | .byte f => encode (f (loByte w))
  | .word f => encode (f w)

/-- The opcode byte `op` and as many bytes of `w` as its cell waits for. -/
def Entry.bytes (op : Byte) (w : Word) : Entry → List Byte
  | .none => []
  | .plain _ => [op]
  | .byte _ => [op, loByte w]
  | .word _ => [op, loByte w, hiByte w]

/-- Each cell of the opcode map agrees with a row of the encoder (R74). -/
theorem encoding_entryOf (op : Byte) (w : Word) : (entryOf op).encoding w = (entryOf op).bytes op w := by
  obtain ⟨n, hn, rfl⟩ : ∃ n < 256, op = BitVec.ofNat 8 n := ⟨op.toNat, op.isLt, by simp⟩
  interval_cases n <;> rfl

/-- The converse of `encode_encodesTo`. -/
theorem EncodesTo.encode_eq {i : Instr} {bs : List Byte} (h : EncodesTo i bs) : encode i = bs := by
  cases h with
  | @plain op _ h => simpa [h, Entry.encoding, Entry.bytes] using encoding_entryOf op 0x0000#16
  | @byte op _ h b => simpa [h, Entry.encoding, Entry.bytes] using encoding_entryOf op (wordOf 0x00#8 b)
  | @word op _ h w => simpa [h, Entry.encoding, Entry.bytes] using encoding_entryOf op w

/-- What the decoder takes from the front of `bytes`, by the kind of the opcode's cell. -/
theorem encodesTo_of_decode {bytes rest : List Byte} {i : Instr} (h : decode bytes = .ok (i, rest)) :
    ∃ bs, EncodesTo i bs ∧ bytes = bs ++ rest := by
  match bytes with
  | [] => simp [decode] at h
  | op :: tail =>
    cases he : entryOf op with
    | none => simp [decode, he] at h
    | plain j =>
      obtain ⟨rfl, rfl⟩ : j = i ∧ tail = rest := by simpa [decode, he] using h
      exact ⟨[op], .plain he, rfl⟩
    | byte f =>
      match tail with
      | [] => simp [decode, he] at h
      | b :: tail =>
        obtain ⟨rfl, rfl⟩ : f b = i ∧ tail = rest := by simpa [decode, he] using h
        exact ⟨[op, b], .byte he b, rfl⟩
    | word f =>
      match tail with
      | [] | [_] => simp [decode, he] at h
      | b1 :: b2 :: tail =>
        obtain ⟨rfl, rfl⟩ : f (wordOf b2 b1) = i ∧ tail = rest := by simpa [decode, he] using h
        exact ⟨_, .word he (wordOf b2 b1), by simp⟩

theorem encode_append_of_decode {bytes rest : List Byte} {i : Instr} (h : decode bytes = .ok (i, rest)) :
    bytes = encode i ++ rest := by
  obtain ⟨bs, henc, rfl⟩ := encodesTo_of_decode h
  rw [henc.encode_eq]

theorem decode_three_eq_unknownOpcode_iff (op b1 b2 : Byte) :
    decode [op, b1, b2] = .error (.unknownOpcode op) ↔ entryOf op = .none := by
  constructor
  · intro h
    by_contra hne
    obtain ⟨i, rest, hok⟩ := decode_three_ok (b1 := b1) (b2 := b2) hne
    simp [h] at hok
  · intro h
    simp [decode, h]

/-- The decoder reads an instruction from its opcode and its operand bytes, filled up to two. -/
theorem EncodesTo.decode_filled {i : Instr} {op : Byte} {bs : List Byte} (h : EncodesTo i bs)
    (hop : bs.head? = some op) : ∃ rest, decode [op, bs.getD 1 0x00#8, bs.getD 2 0x00#8] = .ok (i, rest) := by
  cases h with
  | plain h => cases hop; exact ⟨[0x00#8, 0x00#8], by simp [decode, h]⟩
  | byte h b => cases hop; exact ⟨[0x00#8], by simp [decode, h]⟩
  | word h w => cases hop; exact ⟨[], by simp [decode, h]⟩

theorem length_encode (i : Instr) : (encode i).length = 1 + operandBytes (rowOf i).mode := by
  cases i <;> rfl

end Sys2Proof

namespace Sys2Proof.Machine

open Sys2Proof.Claims

theorem mem_allOpcodes (op : Byte) : op ∈ allOpcodes :=
  List.mem_map.2 ⟨op.toNat, List.mem_range.2 op.isLt, by simp⟩

theorem allOpcodes_nodup : allOpcodes.Nodup := by
  refine List.nodup_range.map_on fun m hm n hn h => ?_
  rw [List.mem_range] at hm hn
  bv_omega

/-- Only the first byte of an encoding is needed to look its row up (R70, R75). -/
theorem rowOfOpcode_head_encode (i : Instr) : (encode i).head?.bind rowOfOpcode = some (rowOf i) := by
  cases i <;> rfl

theorem rowOfOpcode_eq_none_iff (op : Byte) : rowOfOpcode op = none ↔ entryOf op = .none := by
  cases h : entryOf op <;> simp [rowOfOpcode, h]

/-- R79 lists the bytes without a handler, in ascending order. -/
theorem unknownOpcodes_eq_filter : unknownOpcodes = allOpcodes.filter fun op => (rowOfOpcode op).isNone := by
  decide

theorem mem_unknownOpcodes_iff (op : Byte) : op ∈ unknownOpcodes ↔ entryOf op = .none := by
  rw [unknownOpcodes_eq_filter, List.mem_filter, Option.isNone_iff_eq_none, rowOfOpcode_eq_none_iff]
  exact and_iff_right (mem_allOpcodes op)

theorem unknownOpcodes_nodup : unknownOpcodes.Nodup :=
  unknownOpcodes_eq_filter ▸ allOpcodes_nodup.filter _

/-- A running step on bytes that do not decode records the opcode and its address (R301). -/
theorem step_of_decode_error {s : State} {e : DecodeError} (hrun : s.run = .running)
    (hd : decode (fetchBytes s) = .error e) : step s = .next (raiseUnknownOpcode (loadByte s.pc s) s.pc s) := by
  simp only [step, hrun, hd]

/-- Settles O4: the bytes of R79 are those whose cell of the opcode map is empty, and a byte that decodes to NOP
begins NOP's encoding. -/
theorem unknownOpcodesAreTheNinetyEight : Obligations.UnknownOpcodesAreTheNinetyEight := by
  have hunknown (op b1 b2 : Byte) : decode [op, b1, b2] = .error (.unknownOpcode op) ↔ op ∈ unknownOpcodes :=
    (decode_three_eq_unknownOpcode_iff op b1 b2).trans (mem_unknownOpcodes_iff op).symm
  refine ⟨⟨rfl, unknownOpcodes_nodup⟩, hunknown, ?_, ?_, ?_⟩
  · intro op b1 b2 hop
    exact decode_three_ok (mt (mem_unknownOpcodes_iff op).2 hop)
  · intro op b1 b2 rest h
    have hnop : [op, b1, b2] = [0xEA#8] ++ rest := encode_append_of_decode h
    exact (List.cons.inj hnop).1
  · intro s hrun hop
    exact step_of_decode_error hrun ((hunknown _ _ _).2 hop)

/-- Settles O5: the row follows from the opcode byte, and the length from the row's mode. -/
theorem opcodeAloneFixesTheLength : Obligations.OpcodeAloneFixesTheLength := by
  refine ⟨fun i j h => ?_, length_encode⟩
  have hrow : rowOf i = rowOf j :=
    Option.some.inj (by rw [← rowOfOpcode_head_encode i, h, rowOfOpcode_head_encode j])
  exact ⟨by rw [length_encode i, length_encode j, hrow], hrow⟩

/-- Settles O1, by running the decoder on each of the words. -/
theorem specWordsDecodeAsTheSpecSays : Obligations.SpecWordsDecodeAsTheSpecSays := by
  and_intros <;> rfl

end Sys2Proof.Machine
end

section
/-! PROOF. The assembler: the reach of a branch offset (30_encoding.md R80, 40_execution_core.md R115), and the
opcode a mnemonic and a mode select (R75, R82). -/

namespace Sys2Proof.Machine

/-! ## Branch offsets -/

/-- The words that are a signed byte extended are those from -128 to 127. -/
theorem sext16_eq_iff (oo : Byte) (d : Word) :
    sext16 oo = d ↔ (-128 ≤ d.toInt ∧ d.toInt ≤ 127) ∧ loByte d = oo := by
  have hsext : (sext16 oo).toInt = oo.toInt := BitVec.toInt_signExtend_of_le (by decide)
  have hlo : (loByte d).toNat = d.toNat % 256 := by simp [loByte]
  rw [← BitVec.toInt_inj, hsext, ← BitVec.toNat_inj, hlo]
  simp only [BitVec.toInt_eq_toNat_cond]
  omega

theorem branchReaches_iff (site target : Word) : branchReaches site target = true ↔
    -128 ≤ (target - (site + 2#16)).toInt ∧ (target - (site + 2#16)).toInt ≤ 127 := by
  simp [branchReaches]

/-- The assembler's offset is the one byte that reaches the target (R80, R115). -/
theorem branchOffset_eq_some_iff (site target : Word) (oo : Byte) :
    branchOffset site target = some oo ↔ site + 2#16 + sext16 oo = target := by
  have hdistance : site + 2#16 + sext16 oo = target ↔ sext16 oo = target - (site + 2#16) := by
    rw [eq_sub_iff_add_eq']
  rw [hdistance, sext16_eq_iff, ← branchReaches_iff]
  simp [branchOffset]

theorem ofInt_branch_target (site : Word) (oo : Byte) :
    BitVec.ofInt 16 ((site.toNat : Int) + 2 + oo.toInt) = site + 2#16 + sext16 oo := by
  rw [BitVec.ofInt_add, BitVec.ofInt_add, BitVec.ofInt_natCast, BitVec.ofNat_toNat, BitVec.setWidth_eq]
  rfl

/-- A target is refused when no offset byte reaches it (R80). -/
theorem branchOffset_eq_none_iff (site target : Word) : branchOffset site target = none ↔
    ∀ oo : Byte, BitVec.ofInt 16 ((site.toNat : Int) + 2 + oo.toInt) ≠ target := by
  simp only [Option.eq_none_iff_forall_ne_some, Ne, branchOffset_eq_some_iff, ofInt_branch_target]

/-! ## The opcode of a mnemonic and a mode -/

/-- The opcode bytes of a mode (R71, R75). -/
def opcodesIn (mode : Mode) : List Byte := allOpcodes.filter fun op => (rowOfOpcode op).any (·.mode == mode)

theorem isOpcodeFor_iff (m : Mnemonic) (mode : Mode) (op : Byte) :
    isOpcodeFor m mode op = true ↔ op ∈ opcodesIn mode ∧ (rowOfOpcode op).map Row.mnemonic = some m := by
  cases h : rowOfOpcode op <;> simp [isOpcodeFor, opcodesIn, mem_allOpcodes, h, and_comm]

/-- Within a mode, each mnemonic has one opcode (R75). -/
theorem mnemonics_nodup_of_mode (mode : Mode) :
    ((opcodesIn mode).map fun op => (rowOfOpcode op).map Row.mnemonic).Nodup := by
  cases mode <;> decide

theorem opcode_eq_of_isOpcodeFor {m : Mnemonic} {mode : Mode} {op op' : Byte} (h : isOpcodeFor m mode op = true)
    (h' : isOpcodeFor m mode op' = true) : op = op' := by
  obtain ⟨hmem, hm⟩ := (isOpcodeFor_iff m mode op).1 h
  obtain ⟨hmem', hm'⟩ := (isOpcodeFor_iff m mode op').1 h'
  exact List.inj_on_of_nodup_map (mnemonics_nodup_of_mode mode) hmem hmem' (hm.trans hm'.symm)

theorem find?_isOpcodeFor {m : Mnemonic} {mode : Mode} {op : Byte} (h : isOpcodeFor m mode op = true) :
    allOpcodes.find? (isOpcodeFor m mode) = some op := by
  cases hfind : allOpcodes.find? (isOpcodeFor m mode) with
  | none => exact absurd h (List.find?_eq_none.1 hfind op (mem_allOpcodes op))
  | some op' => rw [opcode_eq_of_isOpcodeFor h (List.find?_some hfind)]

/-- A branch mnemonic has no absolute mode, so its written address is a target (R82). -/
theorem find?_isOpcodeFor_abs_of_branch :
    ∀ m ∈ branchMnemonics, allOpcodes.find? (isOpcodeFor m .abs) = none := by
  decide

theorem branchMnemonic_of_rel {i : Instr} (h : (rowOf i).mode = .rel) : (rowOf i).mnemonic ∈ branchMnemonics := by
  cases i with
  | bcc | bcs | beq | bmi | bne | bpl | bvc | bvs => simp [rowOf, branchMnemonics]
  | _ => cases h

/-! ## From an instruction to its written line and back -/

/-- The operand bytes of an instruction as the 16-bit value `build` takes them from, 0 where there is none. -/
def operandWord (i : Instr) : Word := wordOf ((encode i).getD 2 0x00#8) ((encode i).getD 1 0x00#8)

theorem operandWord_of_operandBytes_le_one {i : Instr} (h : operandBytes (rowOf i).mode ≤ 1) :
    operandWord i = wordOf 0x00#8 ((encode i).getD 1 0x00#8) := by
  have hlen := length_encode i
  rw [operandWord, List.getD_eq_default _ _ (by omega : (encode i).length ≤ 2)]

theorem operandWord_of_no_operandBytes {i : Instr} (h : operandBytes (rowOf i).mode = 0) :
    operandWord i = 0x0000#16 := by
  have hlen := length_encode i
  rw [operandWord_of_operandBytes_le_one (by omega), List.getD_eq_default _ _ (by omega : (encode i).length ≤ 1)]
  rfl

theorem build_operandWord (i : Instr) :
    build (rowOf i).mnemonic (rowOf i).mode (operandWord i) = some i := by
  obtain ⟨op, hop, hrow⟩ := Option.bind_eq_some_iff.1 (rowOfOpcode_head_encode i)
  have hfind : allOpcodes.find? (isOpcodeFor (rowOf i).mnemonic (rowOf i).mode) = some op :=
    find?_isOpcodeFor (by simp [isOpcodeFor, hrow])
  obtain ⟨rest, hd⟩ := (encode_encodesTo i).decode_filled hop
  exact build_eq_some hfind (by simpa [operandWord] using hd)

/-- Each mode's operand form makes the assembler choose that mode again, and a branch's target its offset
(R80, R82). -/
theorem assemble_operandWritten (site : Word) (i : Instr) :
    assemble site (rowOf i).mnemonic (operandWritten site i) = some i := by
  have hbuild := build_operandWord i
  cases hmode : (rowOf i).mode with
  | imp | acc =>
    rw [hmode, operandWord_of_no_operandBytes (by rw [hmode]; rfl)] at hbuild
    simp only [operandWritten, hmode, assemble, hbuild, Option.some_or]
  | imm | zp | zpx | zpy | indx | indy =>
    rw [hmode, operandWord_of_operandBytes_le_one (by rw [hmode]; exact le_rfl)] at hbuild
    simp only [operandWritten, hmode, assemble, hbuild, Option.some_or]
  | abs | absx | absy | ind =>
    rw [hmode, operandWord] at hbuild
    simp only [operandWritten, hmode, assemble, hbuild, Option.some_or]
  | rel =>
    rw [hmode, operandWord_of_operandBytes_le_one (by rw [hmode]; exact le_rfl)] at hbuild
    have habs (w : Word) : build (rowOf i).mnemonic .abs w = none :=
      build_eq_none w (find?_isOpcodeFor_abs_of_branch _ (branchMnemonic_of_rel hmode))
    have hoffset (oo : Byte) : branchOffset site (site + 2#16 + oo.signExtend 16) = some oo :=
      (branchOffset_eq_some_iff site _ oo).2 rfl
    simp only [operandWritten, hmode, assemble, habs, buildBranch, hoffset, hbuild, Option.none_or]

/-- Settles O60: an offset byte is the one that reaches its target, and an operand form selects its mode. -/
theorem assemblerAgreesWithTheEncoding : Obligations.AssemblerAgreesWithTheEncoding := by
  refine ⟨fun s target oo => ?_, fun s oo => ?_, branchOffset_eq_none_iff, assemble_operandWritten⟩
  · exact (branchOffset_eq_some_iff s.pc target oo).1
  · exact (branchOffset_eq_some_iff s.pc _ oo).2 rfl

end Sys2Proof.Machine
end

section
/-! PROOF. A running step is its decoded instruction (40_execution_core.md R101), and costs the base cycles, and one
more for a taken branch (R126, 47_branch.md R210). -/

namespace Sys2Proof.Machine

open Sys2Proof.Claims

/-- Settles O6: `fetchBytes` is those three bytes. -/
theorem stepRunsTheDecodedInstruction : Obligations.StepRunsTheDecodedInstruction :=
  fun _ _ _ => step_of_decode

/-! ## Cycles -/

theorem ending_cycles {i : Instr} {u t : State} (h : advance i u = .next t ∨ transfer i u = .next t) :
    t.cycles = u.cycles + baseCycles i := by
  obtain h | h := h
  · rw [(advance_next_iff i u t).1 h, State.cycles_setCycles]
  · rw [(transfer_next_iff i u t).1 h, State.cycles_setCycles]

theorem branch_cycles {i : Instr} {c : Bool} {oo : Byte} {s t : State} (h : branch i c oo s = .next t) :
    t.cycles = s.cycles + baseCycles i + (if c then 1 else 0) := by
  cases c with
  | true =>
    have hcharged : t.cycles = s.cycles + 1 + baseCycles i := ending_cycles (.inr h)
    exact hcharged.trans (Nat.add_right_comm _ _ _)
  | false => exact ending_cycles (.inl h)

theorem minusCondition_eq (s : State) :
    minusCondition s = if s.profile = .source then !flag .zero s else flag .negative s := by
  cases hp : s.profile <;> simp [minusCondition, hp]

/-- Each branch instruction is `branch` on the condition `takenBranch` names (R211 to R218). -/
theorem exec_branch {i : Instr} (hm : (rowOf i).mnemonic ∈ branchMnemonics) (s : State) :
    ∃ oo, exec i s = branch i (takenBranch i s) oo s := by
  cases i with
  | bcc oo | bcs oo | beq oo | bne oo | bpl oo | bvc oo | bvs oo => exact ⟨oo, rfl⟩
  | bmi oo => exact ⟨oo, congrArg (branch (.bmi oo) · oo s) (minusCondition_eq s)⟩
  | _ => simp [rowOf, branchMnemonics] at hm

theorem takenBranch_of_not_branch {i : Instr} (hm : (rowOf i).mnemonic ∉ branchMnemonics) (s : State) :
    takenBranch i s = false := by
  unfold takenBranch
  split <;> simp_all [branchMnemonics]

theorem MnemonicEffect.cycles_eq {m : Mnemonic} {s u : State} (h : MnemonicEffect s m u)
    (hm : m ∉ branchMnemonics) : u.cycles = s.cycles := by
  cases h with
  | branchTaken hbranch => exact absurd hbranch hm
  | _ => simp

theorem exec_cycles {i : Instr} {s t : State} (h : exec i s = .next t) :
    t.cycles = s.cycles + baseCycles i + (if takenBranch i s then 1 else 0) := by
  by_cases hm : (rowOf i).mnemonic ∈ branchMnemonics
  · obtain ⟨oo, hbranch⟩ := exec_branch hm s
    exact branch_cycles (hbranch.symm.trans h)
  · obtain ⟨u, heffect, hend⟩ := exec_cases h
    rw [ending_cycles hend, heffect.cycles_eq hm, takenBranch_of_not_branch hm]
    rfl

/-! ## Run -/

/-- No instruction makes the run Faulted: it writes Run only to halt it (60_exceptions.md R302, R303). -/
theorem MnemonicEffect.run_cases {m : Mnemonic} {s u : State} (h : MnemonicEffect s m u) :
    u.run = s.run ∨ u.run = .halted := by
  cases h with
  | brk => exact .inr (halt_run _)
  | _ => left; simp

theorem exec_run_cases {i : Instr} {s t : State} (h : exec i s = .next t) :
    t.run = s.run ∨ t.run = .halted := by
  obtain ⟨u, heffect, hend⟩ := exec_cases h
  have htu : t.run = u.run := by rw [ending_eq hend]; rfl
  rw [htu]
  exact heffect.run_cases

theorem exec_runFailed {i : Instr} {s t : State} (hrun : s.run = .running) (h : exec i s = .next t) :
    runFailed t = false := by
  obtain ht | ht := exec_run_cases h
  · simp only [runFailed, ht, hrun]
  · simp only [runFailed, ht]

/-- Settles O15: a step whose run has failed is the record of an unknown opcode, which charges nothing. -/
theorem eachStepChargesItsCost : Obligations.EachStepChargesItsCost := by
  refine ⟨fun _ _ _ => exec_cycles, rfl, fun s t h hfailed => ?_, fun s t h => ?_⟩
  · obtain ⟨i, _, _, hexec⟩ | ⟨_, _, rfl⟩ := step_cases h
    · exact absurd hfailed (Bool.eq_false_iff.1 (exec_runFailed (running_of_step h) hexec))
    · rfl
  · obtain ⟨i, _, _, hexec⟩ | ⟨_, _, rfl⟩ := step_cases h
    · exact exec_cycles_le hexec
    · exact le_rfl

end Sys2Proof.Machine
end

section
/-! PROOF. What the shared flag helpers write (40_execution_core.md R119 to R123). -/

namespace Sys2Proof.Machine

open Sys2Proof.Claims

/-- `SetZN` writes Z and N and no other bit (R121). -/
theorem flagsBecome_setZN (v : Byte) (s : State) : FlagsBecome s (setZN v s) (znOf v) := by
  intro f
  rw [flag_setZN, getBit_eq_getLsbD]
  cases f <;> rfl

theorem carryOf_eq_overflowAddOf (a b : Byte) : carryOf a b = overflowAddOf a b := by
  have hb := b.isLt
  exact decide_eq_decide.2 (by omega)

theorem overflowSubOf_eq (a b : Byte) : overflowSubOf a b = decide (a.toNat < b.toNat) :=
  decide_eq_decide.2 (by omega)

/-- Settles O23: each helper is `setFlag`, of the condition the rule names. -/
theorem flagHelpersWriteTheirConditions : Obligations.FlagHelpersWriteTheirConditions := by
  intro a b v s
  have hzero : decide (v.toNat = 0) = decide (v = 0#8) :=
    decide_eq_decide.2 (BitVec.toNat_inj (y := 0#8))
  have hcarry : FlagsBecome s (setCarryFlag a b s) [(.carry, carryOf a b)] := flagsBecome_setFlag _ _ s
  rw [hzero]
  refine ⟨flagsBecome_setFlag _ _ s, ?_, rfl, flagsBecome_setZN v s, hcarry, ?_, flagsBecome_setFlag _ _ s, ?_⟩
  · have hnegative : v.getLsbD 7 = getBit v 7 := (getBit_eq_getLsbD v 7).symm
    rw [hnegative]
    exact flagsBecome_setFlag _ _ s
  · rw [carryOf_eq_overflowAddOf] at hcarry
    exact hcarry
  · rw [← overflowSubOf_eq]
    exact flagsBecome_setFlag _ _ s

end Sys2Proof.Machine
end

section
/-! PROOF. The addresses the resolver gives, as numbers (40_execution_core.md R106 to R114). -/

namespace Sys2Proof

theorem wordOf_toNat (hi lo : Byte) : (wordOf hi lo).toNat = 256 * hi.toNat + lo.toNat := by
  rw [wordOf, BitVec.toNat_append, ← Nat.shiftLeft_add_eq_or_of_lt lo.isLt, Nat.shiftLeft_eq, Nat.mul_comm]

theorem toNat_eq_bytes (w : Word) : w.toNat = 256 * (hiByte w).toNat + (loByte w).toNat := by
  rw [← wordOf_toNat, wordOf_hiByte_loByte]

end Sys2Proof

namespace Sys2Proof.Machine

theorem zext16_toNat (b : Byte) : (zext16 b).toNat = b.toNat := zeroPage_toNat b

theorem zeroPage_eq_ofNat (b : Byte) : zeroPage b = BitVec.ofNat 16 b.toNat := by
  rw [← zeroPage_toNat, BitVec.ofNat_toNat, BitVec.setWidth_eq]

theorem zeroPage_add_toNat (b c : Byte) : (zeroPage (b + c)).toNat = (b.toNat + c.toNat) % 256 := by
  rw [zeroPage_toNat, BitVec.toNat_add]

theorem add_zext16_toNat (w : Word) (b : Byte) : (w + zext16 b).toNat = (w.toNat + b.toNat) % 65536 := by
  rw [BitVec.toNat_add, zext16_toNat]

/-- Settles O24: a sum of bytes wraps at 256 before it is a zero-page address, a sum of words at 65536. -/
theorem directModesGiveTheirAddress : Obligations.DirectModesGiveTheirAddress :=
  fun s zz hhll => ⟨zeroPage_toNat zz, zeroPage_add_toNat zz s.x, zeroPage_add_toNat zz s.y, toNat_eq_bytes hhll,
    add_zext16_toNat hhll s.x, add_zext16_toNat hhll s.y, fun _ => rfl⟩

/-! ## The indirect modes -/

theorem zeroPagePointer_toNat (p : Byte) (s : State) : (zeroPagePointer p s).toNat =
    256 * (loadByte (BitVec.ofNat 16 ((p.toNat + 1) % 256)) s).toNat +
      (loadByte (BitVec.ofNat 16 p.toNat) s).toNat := by
  have hnext : (p + 1#8).toNat = (p.toNat + 1) % 256 := BitVec.toNat_add p 1#8
  rw [zeroPagePointer, wordOf_toNat, zeroPage_eq_ofNat, zeroPage_eq_ofNat, hnext]

section
variable {s : State}

theorem effectiveAddress_indx_source (h : s.profile = .source) (zz : Byte) :
    effectiveAddress (.indx zz) s = zeroPage (zz + s.x) := by
  simp only [effectiveAddress, h]

theorem effectiveAddress_indy_source (h : s.profile = .source) (zz : Byte) :
    effectiveAddress (.indy zz) s = zeroPage (zz + s.y) := by
  simp only [effectiveAddress, h]

theorem effectiveAddress_indx_nmos (h : s.profile = .nmos) (zz : Byte) :
    effectiveAddress (.indx zz) s = zeroPagePointer (zz + s.x) s := by
  simp only [effectiveAddress, h]

theorem effectiveAddress_indy_nmos (h : s.profile = .nmos) (zz : Byte) :
    effectiveAddress (.indy zz) s = zeroPagePointer zz s + zext16 s.y := by
  simp only [effectiveAddress, h]

end

/-- Settles O25, each profile by its own equation for the two modes. -/
theorem indirectModesFollowTheProfile : Obligations.IndirectModesFollowTheProfile := by
  refine fun s zz => ⟨fun hsource => ⟨?_, ?_⟩, fun hnmos => ⟨?_, ?_⟩⟩
  · rw [effectiveAddress_indx_source hsource, zeroPage_add_toNat]
  · rw [effectiveAddress_indy_source hsource, zeroPage_add_toNat]
  · rw [effectiveAddress_indx_nmos hnmos, zeroPagePointer_toNat, BitVec.toNat_add, Nat.mod_add_mod]
  · rw [effectiveAddress_indy_nmos hnmos, add_zext16_toNat, zeroPagePointer_toNat]

/-! ## JMP -/

/-- The page of `w`, with another low byte. -/
theorem page_or_zext16 (w : Word) (lo : Byte) : (w &&& 0xFF00#16) ||| zext16 lo = wordOf (hiByte w) lo := by
  have hzext : zext16 lo = 0x00#8 ++ lo := BitVec.setWidth_eq_append (by decide)
  have hmask : 0xFF00#16 = 0xFF#8 ++ 0x00#8 := rfl
  have hw : w = hiByte w ++ loByte w := (wordOf_hiByte_loByte w).symm
  calc (w &&& 0xFF00#16) ||| zext16 lo
    _ = ((hiByte w ++ loByte w) &&& (0xFF#8 ++ 0x00#8)) ||| (0x00#8 ++ lo) := by rw [← hw, hzext, hmask]
    _ = wordOf (hiByte w) lo := by
      rw [BitVec.and_append, BitVec.or_append, BitVec.and_zero, BitVec.or_zero, BitVec.zero_or]
      exact congrArg (· ++ lo) BitVec.and_allOnes

theorem page_eq_wordOf (w : Word) : w &&& 0xFF00#16 = wordOf (hiByte w) 0#8 := by
  rw [← page_or_zext16]
  exact BitVec.or_zero.symm

/-- The high byte of the target stands after the low one, but never on the next page (R114). -/
theorem indirectTarget_eq (w : Word) (s : State) : indirectTarget w s =
    wordOf (loadByte (if w.toNat % 256 = 255 then w &&& 0xFF00#16 else w + 1#16) s) (loadByte w s) := by
  have hw := toNat_eq_bytes w
  have hlo := (loByte w).isLt
  have hnext : (loByte w + 1#8).toNat = ((loByte w).toNat + 1) % 256 := BitVec.toNat_add _ 1#8
  have hhigh : wordOf (hiByte w) (loByte w + 1#8) =
      if w.toNat % 256 = 255 then w &&& 0xFF00#16 else w + 1#16 := by
    apply BitVec.eq_of_toNat_eq
    split
    · rw [page_eq_wordOf, wordOf_toNat, wordOf_toNat, hnext]
      simp only [BitVec.toNat_ofNat]
      omega
    · rw [wordOf_toNat, hnext, BitVec.toNat_add]
      simp only [BitVec.toNat_ofNat]
      omega
  rw [indirectTarget, page_or_zext16, hhigh]

/-- Settles O48: both forms write PC and the charge alone. -/
theorem jmpGoesToItsTarget : Obligations.JmpGoesToItsTarget := by
  refine ⟨fun w => ⟨decode_encode_append (.jmpAbs w) [], fun s => ?_⟩,
    fun w => ⟨decode_encode_append (.jmpInd w) [], fun s => ?_⟩⟩
  · exact ⟨_, rfl, rfl, rfl, ⟨rfl, rfl, rfl, rfl⟩, rfl, fun _ => rfl, rfl, rfl⟩
  · refine ⟨_, rfl, fun hw => ?_, fun hw => ?_, rfl, ⟨rfl, rfl, rfl, rfl⟩, rfl, fun _ => rfl, rfl, rfl⟩
    · rw [charge_pc, State.pc_setPc, indirectTarget_eq, if_neg hw, wordOf_toNat]
    · rw [charge_pc, State.pc_setPc, indirectTarget_eq, if_pos hw, wordOf_toNat]

end Sys2Proof.Machine
end

section
/-! PROOF. An instruction that ends by advancing PC, said once for every mnemonic (40_execution_core.md R101, R103),
and the loads and stores (41_load_store.md R140 to R145). -/

namespace Sys2Proof.Machine

open Sys2Proof.Claims

/-! ## Instructions that advance PC -/

/-- What `advance` still has to write, or leaves alone, is as it was: PC, Cycles, Run and the profile. -/
def ControlKept (s u : State) : Prop := u.pc = s.pc ∧ u.cycles = s.cycles ∧ GoesOn s u

/-- An instruction whose meaning is an operation followed by `advance` is sequential, with the length of its
encoding and the cost of its row; `effect` is asked of the operation, whatever PC and Cycles become. -/
theorem sequential_of_advance {i : Instr} {effect : State → State → Prop} {op : State → State}
    (hexec : ∀ s, exec i s = advance i (op s)) (hcontrol : ∀ s, ControlKept s (op s))
    (heffect : ∀ s pc cycles, effect s (((op s).setPc pc).setCycles cycles)) :
    Sequential (encode i) i (baseCycles i) effect := by
  have hdecode : decode (encode i) = .ok (i, []) := by
    simpa only [List.append_nil] using decode_encode_append i []
  refine ⟨hdecode, fun s => ⟨_, hexec s, ?_⟩⟩
  obtain ⟨hpc, hcycles, hgoes⟩ := hcontrol s
  refine ⟨?_, congrArg (· + baseCycles i) hcycles, hgoes, heffect s _ _⟩
  rw [length_encode, ← hpc]
  rfl

/-! ## Loads (R140 to R142) -/

theorem ldaEffect_loadA (m : Byte) (s : State) : ldaEffect m s (loadA m s) :=
  ⟨⟨loadA_a m s, loadA_x m s, loadA_y m s, loadA_sp m s⟩, flagsBecome_setZN m (s.setA m),
    loadByte_congr (loadA_mem m s)⟩

theorem ldxEffect_loadX (m : Byte) (s : State) : ldxEffect m s (loadX m s) :=
  ⟨⟨loadX_a m s, loadX_x m s, loadX_y m s, loadX_sp m s⟩, flagsBecome_setZN m (s.setX m),
    loadByte_congr (loadX_mem m s)⟩

theorem ldyEffect_loadY (m : Byte) (s : State) : ldyEffect m s (loadY m s) :=
  ⟨⟨loadY_a m s, loadY_x m s, loadY_y m s, loadY_sp m s⟩, flagsBecome_setZN m (s.setY m),
    loadByte_congr (loadY_mem m s)⟩

section
variable {i : Instr} {value : State → Byte}

/-- The operand is left open: `value` is an immediate byte or the operand value of a mode. -/
theorem sequential_loadA (hexec : ∀ s, exec i s = advance i (loadA (value s) s)) :
    Sequential (encode i) i (baseCycles i) fun s => ldaEffect (value s) s :=
  sequential_of_advance hexec
    (fun s => ⟨loadA_pc _ s, loadA_cycles _ s, loadA_run _ s, loadA_profile _ s⟩)
    (fun s _ _ => ldaEffect_loadA (value s) s)

theorem sequential_loadX (hexec : ∀ s, exec i s = advance i (loadX (value s) s)) :
    Sequential (encode i) i (baseCycles i) fun s => ldxEffect (value s) s :=
  sequential_of_advance hexec
    (fun s => ⟨loadX_pc _ s, loadX_cycles _ s, loadX_run _ s, loadX_profile _ s⟩)
    (fun s _ _ => ldxEffect_loadX (value s) s)

theorem sequential_loadY (hexec : ∀ s, exec i s = advance i (loadY (value s) s)) :
    Sequential (encode i) i (baseCycles i) fun s => ldyEffect (value s) s :=
  sequential_of_advance hexec
    (fun s => ⟨loadY_pc _ s, loadY_cycles _ s, loadY_run _ s, loadY_profile _ s⟩)
    (fun s _ _ => ldyEffect_loadY (value s) s)

end

/-- Settles O27: each form is the one operation `loadA`, of its own operand. -/
theorem ldaLoadsTheAccumulator : Obligations.LdaLoadsTheAccumulator :=
  ⟨fun ii => sequential_loadA (i := .ldaImm ii) fun _ => rfl,
    fun zz => sequential_loadA (i := .ldaZp zz) fun _ => rfl,
    fun zz => sequential_loadA (i := .ldaZpx zz) fun _ => rfl,
    fun hhll => sequential_loadA (i := .ldaAbs hhll) fun _ => rfl,
    fun hhll => sequential_loadA (i := .ldaAbsx hhll) fun _ => rfl,
    fun hhll => sequential_loadA (i := .ldaAbsy hhll) fun _ => rfl,
    fun zz => sequential_loadA (i := .ldaIndx zz) fun _ => rfl,
    fun zz => sequential_loadA (i := .ldaIndy zz) fun _ => rfl⟩

/-- Settles O28; the indexed forms read through Y. -/
theorem ldxLoadsX : Obligations.LdxLoadsX :=
  ⟨fun ii => sequential_loadX (i := .ldxImm ii) fun _ => rfl,
    fun zz => sequential_loadX (i := .ldxZp zz) fun _ => rfl,
    fun zz => sequential_loadX (i := .ldxZpy zz) fun _ => rfl,
    fun hhll => sequential_loadX (i := .ldxAbs hhll) fun _ => rfl,
    fun hhll => sequential_loadX (i := .ldxAbsy hhll) fun _ => rfl⟩

/-- Settles O29; the indexed forms read through X. -/
theorem ldyLoadsY : Obligations.LdyLoadsY :=
  ⟨fun ii => sequential_loadY (i := .ldyImm ii) fun _ => rfl,
    fun zz => sequential_loadY (i := .ldyZp zz) fun _ => rfl,
    fun zz => sequential_loadY (i := .ldyZpx zz) fun _ => rfl,
    fun hhll => sequential_loadY (i := .ldyAbs hhll) fun _ => rfl,
    fun hhll => sequential_loadY (i := .ldyAbsx hhll) fun _ => rfl⟩

/-! ## Stores (R143 to R145) -/

theorem byteStored_storeOperand (o : MemOperand) (v : Byte) (s : State) :
    ByteStored s (storeOperand o v s) (effectiveAddress o s) v :=
  ⟨Memory.read_write_same _ _ _, fun _ hb => Memory.read_write_other _ _ hb⟩

/-- `v` is the register stored: A, X or Y. -/
theorem sequential_storeOperand {i : Instr} {o : MemOperand} {v : State → Byte}
    (hexec : ∀ s, exec i s = advance i (storeOperand o (v s) s)) :
    Sequential (encode i) i (baseCycles i) fun s t =>
      RegsKept s t ∧ FlagsKept s t ∧ ByteStored s t (effectiveAddress o s) (v s) :=
  sequential_of_advance hexec (fun _ => ⟨rfl, rfl, rfl, rfl⟩)
    (fun s _ _ => ⟨⟨rfl, rfl, rfl, rfl⟩, rfl, byteStored_storeOperand o (v s) s⟩)

/-- Settles O30: the store resolves its address in the state before, and the memory at that address is not read. -/
theorem storesWriteOneByte : Obligations.StoresWriteOneByte :=
  ⟨fun zz => sequential_storeOperand (i := .staZp zz) fun _ => rfl,
    fun zz => sequential_storeOperand (i := .staZpx zz) fun _ => rfl,
    fun hhll => sequential_storeOperand (i := .staAbs hhll) fun _ => rfl,
    fun hhll => sequential_storeOperand (i := .staAbsx hhll) fun _ => rfl,
    fun hhll => sequential_storeOperand (i := .staAbsy hhll) fun _ => rfl,
    fun zz => sequential_storeOperand (i := .staIndx zz) fun _ => rfl,
    fun zz => sequential_storeOperand (i := .staIndy zz) fun _ => rfl,
    fun zz => sequential_storeOperand (i := .stxZp zz) fun _ => rfl,
    fun zz => sequential_storeOperand (i := .stxZpy zz) fun _ => rfl,
    fun hhll => sequential_storeOperand (i := .stxAbs hhll) fun _ => rfl,
    fun zz => sequential_storeOperand (i := .styZp zz) fun _ => rfl,
    fun zz => sequential_storeOperand (i := .styZpx zz) fun _ => rfl,
    fun hhll => sequential_storeOperand (i := .styAbs hhll) fun _ => rfl⟩

end Sys2Proof.Machine
end

section
/-! PROOF. The transfers (42_transfer_stack.md R150 to R155), the pushes and pulls of one byte (R156 to R159),
and a push undone by a later pull. -/

namespace Sys2Proof.Machine

open Sys2Proof.Claims

/-! ## Reading a sequential instruction -/

theorem sequential_mono {bytes : List Byte} {i : Instr} {cyc : Nat} {effect weaker : State → State → Prop}
    (hseq : Sequential bytes i cyc effect) (hweaker : ∀ s t, effect s t → weaker s t) :
    Sequential bytes i cyc weaker := by
  obtain ⟨hdecode, hexec⟩ := hseq
  refine ⟨hdecode, fun s => ?_⟩
  obtain ⟨t, ht, hpc, hcycles, hgoes, heffect⟩ := hexec s
  exact ⟨t, ht, hpc, hcycles, hgoes, hweaker s t heffect⟩

/-- The state `exec` answers is the one `Sequential` describes. -/
theorem effect_of_exec {bytes : List Byte} {i : Instr} {cyc : Nat} {effect : State → State → Prop}
    {s t : State} (hseq : Sequential bytes i cyc effect) (ht : exec i s = .next t) : effect s t := by
  obtain ⟨t', ht', _, _, _, heffect⟩ := hseq.2 s
  cases ht'.symm.trans ht
  exact heffect

/-! ## Transfers (R150 to R155) -/

/-- Settles O31: TXS alone is no load, and so leaves P as it was. -/
theorem transfersCopyTheirRegister : Obligations.TransfersCopyTheirRegister :=
  ⟨sequential_loadX (i := .tax) fun _ => rfl,
    sequential_loadY (i := .tay) fun _ => rfl,
    sequential_loadX (i := .tsx) fun _ => rfl,
    sequential_loadA (i := .tya) fun _ => rfl,
    sequential_of_advance (i := .txs) (op := fun s => s.setSp s.x) (fun _ => rfl) (fun _ => ⟨rfl, rfl, rfl, rfl⟩)
      fun _ _ _ => ⟨⟨rfl, rfl, rfl, rfl⟩, rfl, fun _ => rfl⟩⟩

theorem txaSource_of_source {s : State} (h : s.profile = .source) : txaSource s = s.sp := by
  rw [txaSource, h]

theorem txaSource_of_nmos {s : State} (h : s.profile = .nmos) : txaSource s = s.x := by
  rw [txaSource, h]

/-- Settles O32: TXA is the load of the register its profile names. -/
theorem txaCopiesTheProfilesRegister : Obligations.TxaCopiesTheProfilesRegister := by
  refine sequential_mono (sequential_loadA (i := .txa) fun _ => rfl) ?_
  rintro s t ⟨hregs, hflags, hmem⟩
  refine ⟨fun h => ?_, fun h => ?_, hmem⟩
  · rw [txaSource_of_source h] at hregs hflags
    exact ⟨hregs, hflags⟩
  · rw [txaSource_of_nmos h] at hregs hflags
    exact ⟨hregs, hflags⟩

/-! ## Pushes (R156, R157) -/

/-- `v` is the byte pushed: A, or P as the profile pushes it. -/
theorem sequential_push8 {i : Instr} {v : State → Byte} (hexec : ∀ s, exec i s = advance i (push8 (v s) s)) :
    Sequential (encode i) i (baseCycles i) fun s t =>
      RegsAre t s.a s.x s.y (s.sp - 1#8) ∧ FlagsKept s t ∧
      ByteStored s t (BitVec.ofNat 16 (256 + s.sp.toNat)) (v s) := by
  refine sequential_of_advance hexec (fun _ => ⟨rfl, rfl, rfl, rfl⟩) fun s _ _ => ?_
  rw [← stackAddress_eq_ofNat]
  exact ⟨⟨rfl, rfl, rfl, rfl⟩, rfl, byteStored_push8 (v s) s⟩

/-- Settles O33: both are the one operation `push8`, of A and of the pushed form of P. -/
theorem phaAndPhpPushOneByte : Obligations.PhaAndPhpPushOneByte := by
  refine ⟨sequential_push8 (i := .pha) fun _ => rfl, sequential_push8 (i := .php) fun s => ?_⟩
  rw [← pushedStatus_eq]
  rfl

/-! ## Pulls (R158, R159) -/

theorem pullStatus_p_of_source {s : State} (h : s.profile = .source) : (pullStatus s).p = pulled8 s := by
  rw [pullStatus_p, h, pulledStatus]

theorem flag_pullStatus_of_nmos {s : State} (h : s.profile = .nmos) (f : Flag) :
    flag f (pullStatus s) =
      if f = .brk ∨ f = .unused then flag f s else getBit (pulled8 s) (flagBit f) := by
  simp only [flag, pullStatus_p, getBit_pulledStatus, h, true_and]

/-- Settles O34: PLA is a load of the pulled byte, after the pull moved SP. -/
theorem plaAndPlpPullOneByte : Obligations.PlaAndPlpPullOneByte := by
  constructor
  · exact sequential_of_advance (i := .pla) (op := fun s => loadA (pulled8 s) (pull8 s)) (fun _ => rfl)
      (fun s => ⟨loadA_pc _ _, loadA_cycles _ _, loadA_run _ _, loadA_profile _ _⟩)
      fun s _ _ => ldaEffect_loadA (pulled8 s) (pull8 s)
  · exact sequential_of_advance (i := .plp) (op := pullStatus) (fun _ => rfl) (fun _ => ⟨rfl, rfl, rfl, rfl⟩)
      fun s _ _ => ⟨⟨rfl, rfl, rfl, rfl⟩, rfl, fun _ => rfl, pullStatus_p_of_source, flag_pullStatus_of_nmos⟩

/-! ## A push and a later pull -/

/-- A pull in `u` moves SP back to where it was in `s`, before a push that led to `t`, and gives the byte pushed,
when SP and that byte are in `u` as the push left them. -/
theorem pull_after_push {s t u : State} {v : Byte} (htsp : t.sp = s.sp - 1#8)
    (hstored : ByteStored s t (BitVec.ofNat 16 (256 + s.sp.toNat)) v) (husp : u.sp = t.sp)
    (hkept : loadByte (stackAddress s.sp) u = loadByte (stackAddress s.sp) t) :
    u.sp + 1#8 = s.sp ∧ loadByte (stackAddress (u.sp + 1#8)) u = v := by
  have hsp : u.sp + 1#8 = s.sp := by rw [husp, htsp, BitVec.sub_add_cancel]
  refine ⟨hsp, ?_⟩
  rw [hsp, hkept, stackAddress_eq_ofNat]
  exact hstored.1

/-- The bits PHP forces to 1 are B and U, and those in the NMOS profile alone (R157). -/
theorem getBit_pushedStatus (pr : Profile) (p : Byte) (f : Flag) :
    getBit (pushedStatus pr p) (flagBit f) =
      if pr = .nmos ∧ (f = .brk ∨ f = .unused) then true else getBit p (flagBit f) := by
  cases pr <;> cases f <;> simp [pushedStatus, getBit_eq_getLsbD, flagBit]

/-- Settles O35: in the NMOS profile the bits PHP forces to 1 are the ones PLP does not take. -/
theorem pushThenPullRestores : Obligations.PushThenPullRestores := by
  obtain ⟨hpha, hphp⟩ := phaAndPhpPushOneByte
  obtain ⟨hpla, hplp⟩ := plaAndPlpPullOneByte
  constructor
  · intro s t u v ht husp hkept hv
    obtain ⟨⟨-, -, -, htsp⟩, -, hstored⟩ := effect_of_exec hpha ht
    obtain ⟨⟨hva, -, -, hvsp⟩, -⟩ := effect_of_exec hpla hv
    obtain ⟨hsp, hbyte⟩ := pull_after_push htsp hstored husp hkept
    exact ⟨hva.trans hbyte, hvsp.trans hsp⟩
  · intro s t u v ht husp hprofile hkept hv
    obtain ⟨⟨-, -, -, htsp⟩, -, hstored⟩ := effect_of_exec hphp ht
    obtain ⟨-, hvsp, -, hsource, hnmos⟩ := effect_of_exec hplp hv
    obtain ⟨hsp, hbyte⟩ := pull_after_push htsp hstored husp hkept
    rw [← pushedStatus_eq] at hbyte
    rw [hbyte, hprofile] at hsource hnmos
    refine ⟨fun h => ⟨?_, hvsp.trans hsp⟩, fun h hbrk hunused => ⟨?_, hvsp.trans hsp⟩⟩
    · rw [hsource h, h, pushedStatus]
    · refine p_eq_of_flags fun f => ?_
      rw [hnmos h f]
      split
      next hf =>
        obtain rfl | rfl := hf
        · exact hbrk
        · exact hunused
      next hf => rw [getBit_pushedStatus, if_neg fun hforced => hf hforced.2, flag]

end Sys2Proof.Machine
end

section
/-! PROOF. The logical instructions and BIT (43_logical_arith.md R170 to R173). -/

namespace Sys2Proof.Machine

open Sys2Proof.Claims

/-! ## AND, ORA and EOR (R170 to R172) -/

section
variable {i : Instr} {value : State → Byte}

/-- AND is the load of `A &&& M`, whatever the operand. -/
theorem sequential_andA (hexec : ∀ s, exec i s = advance i (andA (value s) s)) :
    Sequential (encode i) i (baseCycles i) fun s => andEffect (value s) s :=
  sequential_loadA (value := fun s => s.a &&& value s) hexec

theorem sequential_orA (hexec : ∀ s, exec i s = advance i (orA (value s) s)) :
    Sequential (encode i) i (baseCycles i) fun s => oraEffect (value s) s :=
  sequential_loadA (value := fun s => s.a ||| value s) hexec

theorem sequential_eorA (hexec : ∀ s, exec i s = advance i (eorA (value s) s)) :
    Sequential (encode i) i (baseCycles i) fun s => eorEffect (value s) s :=
  sequential_loadA (value := fun s => s.a ^^^ value s) hexec

end

/-- Settles O36: each form loads A with A and its own operand combined. -/
theorem logicalInstructionsCombineWithA : Obligations.LogicalInstructionsCombineWithA :=
  ⟨fun ii => sequential_andA (i := .andImm ii) fun _ => rfl,
    fun zz => sequential_andA (i := .andZp zz) fun _ => rfl,
    fun zz => sequential_andA (i := .andZpx zz) fun _ => rfl,
    fun hhll => sequential_andA (i := .andAbs hhll) fun _ => rfl,
    fun hhll => sequential_andA (i := .andAbsx hhll) fun _ => rfl,
    fun hhll => sequential_andA (i := .andAbsy hhll) fun _ => rfl,
    fun zz => sequential_andA (i := .andIndx zz) fun _ => rfl,
    fun zz => sequential_andA (i := .andIndy zz) fun _ => rfl,
    fun ii => sequential_orA (i := .oraImm ii) fun _ => rfl,
    fun zz => sequential_orA (i := .oraZp zz) fun _ => rfl,
    fun zz => sequential_orA (i := .oraZpx zz) fun _ => rfl,
    fun hhll => sequential_orA (i := .oraAbs hhll) fun _ => rfl,
    fun hhll => sequential_orA (i := .oraAbsx hhll) fun _ => rfl,
    fun hhll => sequential_orA (i := .oraAbsy hhll) fun _ => rfl,
    fun zz => sequential_orA (i := .oraIndx zz) fun _ => rfl,
    fun zz => sequential_orA (i := .oraIndy zz) fun _ => rfl,
    fun ii => sequential_eorA (i := .eorImm ii) fun _ => rfl,
    fun zz => sequential_eorA (i := .eorZp zz) fun _ => rfl,
    fun zz => sequential_eorA (i := .eorZpx zz) fun _ => rfl,
    fun hhll => sequential_eorA (i := .eorAbs hhll) fun _ => rfl,
    fun hhll => sequential_eorA (i := .eorAbsx hhll) fun _ => rfl,
    fun hhll => sequential_eorA (i := .eorAbsy hhll) fun _ => rfl,
    fun zz => sequential_eorA (i := .eorIndx zz) fun _ => rfl,
    fun zz => sequential_eorA (i := .eorIndy zz) fun _ => rfl⟩

/-! ## BIT (R173) -/

theorem bitEffect_testBits (m : Byte) (s : State) : bitEffect m s (testBits m s) := by
  refine ⟨⟨testBits_a m s, testBits_x m s, testBits_y m s, testBits_sp m s⟩, fun f => ?_,
    loadByte_congr (testBits_mem m s)⟩
  rw [flag_testBits, getBit_eq_getLsbD, getBit_eq_getLsbD]
  cases f <;> rfl

theorem sequential_testBits {i : Instr} {value : State → Byte}
    (hexec : ∀ s, exec i s = advance i (testBits (value s) s)) :
    Sequential (encode i) i (baseCycles i) fun s => bitEffect (value s) s :=
  sequential_of_advance hexec
    (fun s => ⟨testBits_pc _ s, testBits_cycles _ s, testBits_run _ s, testBits_profile _ s⟩)
    (fun s _ _ => bitEffect_testBits (value s) s)

/-- Settles O37: both forms are the one operation `testBits`, of the byte read. -/
theorem bitTestsWithoutWriting : Obligations.BitTestsWithoutWriting :=
  ⟨fun zz => sequential_testBits (i := .bitZp zz) fun _ => rfl,
    fun hhll => sequential_testBits (i := .bitAbs hhll) fun _ => rfl⟩

end Sys2Proof.Machine
end

section
/-! PROOF. Addition and subtraction by profile: ADC, SBC and ISC (43_logical_arith.md R174 to R178). -/

namespace Sys2Proof.Machine

open Sys2Proof.Claims

/-! ## The flags of a sum or a difference -/

/-- Every branch of R174 and R176 writes C, then V, then loads A. -/
theorem flagsBecome_arithmetic (c v : Bool) (r : Byte) (s : State) :
    FlagsBecome s (loadA r (setFlag .overflow v (setFlag .carry c s)))
      ([(.carry, c), (.overflow, v)] ++ znOf r) := by
  intro f
  rw [flag_loadA, flag_setFlag, flag_setFlag, getBit_eq_getLsbD]
  cases f <;> rfl

/-- The sign bit of the result differs from that of both operands (R174). -/
theorem signedOverflowOf_eq (a m r : Byte) : signedOverflowOf a m r =
    ((a.getLsbD 7 != r.getLsbD 7) && (m.getLsbD 7 != r.getLsbD 7)) := by
  have hmask : ∀ x : Byte, (x &&& 0x80#8 != 0#8) = x.getLsbD 7 := by decide
  rw [signedOverflowOf, hmask, BitVec.getLsbD_and, BitVec.getLsbD_xor, BitVec.getLsbD_xor,
    Bool.bne_eq_xor]

theorem carryNat_le_one (s : State) : carryNat s ≤ 1 := by
  unfold carryNat
  split <;> omega

/-! ## ADC (R174, R175) -/

theorem addOp_of_source {s : State} (h : s.profile = .source) (m : Byte) :
    addOp m s = loadA (s.a + m) (setOverflowAdd s.a m (setCarryFlag s.a m s)) := by
  simp only [addOp, h]

theorem addOp_of_nmos {s : State} (h : s.profile = .nmos) (m : Byte) : addOp m s = addOpNmos m s := by
  simp only [addOp, h]

theorem nmosSumEffect_addOpNmos (m : Byte) (s : State) : nmosSumEffect m s (addOpNmos m s) := by
  refine ⟨loadA_a _ _, ?_⟩
  rw [← signedOverflowOf_eq]
  exact flagsBecome_arithmetic _ _ _ s

theorem adcEffect_addOp (m : Byte) (s : State) : adcEffect m s (addOp m s) := by
  refine ⟨fun h => ?_, fun h => ?_, addOp_x m s, addOp_y m s, addOp_sp m s, loadByte_congr (addOp_mem m s)⟩
  · rw [addOp_of_source h, setCarryFlag, carryOf_eq_overflowAddOf]
    exact ⟨loadA_a _ _, flagsBecome_arithmetic _ _ _ s⟩
  · rw [addOp_of_nmos h]
    exact nmosSumEffect_addOpNmos m s

theorem sequential_addOp {i : Instr} {value : State → Byte}
    (hexec : ∀ s, exec i s = advance i (addOp (value s) s)) :
    Sequential (encode i) i (baseCycles i) fun s => adcEffect (value s) s :=
  sequential_of_advance hexec
    (fun s => ⟨addOp_pc _ s, addOp_cycles _ s, addOp_run _ s, addOp_profile _ s⟩)
    (fun s _ _ => adcEffect_addOp (value s) s)

/-- Settles O38: each form adds its own operand; the sum reads no flag but C, and that in the NMOS profile alone. -/
theorem adcAddsByProfile : Obligations.AdcAddsByProfile :=
  ⟨fun ii => sequential_addOp (i := .adcImm ii) fun _ => rfl,
    fun zz => sequential_addOp (i := .adcZp zz) fun _ => rfl,
    fun zz => sequential_addOp (i := .adcZpx zz) fun _ => rfl,
    fun hhll => sequential_addOp (i := .adcAbs hhll) fun _ => rfl,
    fun hhll => sequential_addOp (i := .adcAbsx hhll) fun _ => rfl,
    fun hhll => sequential_addOp (i := .adcAbsy hhll) fun _ => rfl,
    fun zz => sequential_addOp (i := .adcIndx zz) fun _ => rfl,
    fun zz => sequential_addOp (i := .adcIndy zz) fun _ => rfl⟩

/-! ## SBC (R176, R177) -/

theorem subOp_of_source {s : State} (h : s.profile = .source) (m : Byte) : subOp m s =
    loadA (s.a - subtrahend m s)
      (setOverflowSub s.a (subtrahend m s) (setCarryFlag s.a (subtrahend m s) s)) := by
  simp only [subOp, h]

/-- The NMOS difference is the NMOS sum of A and the complement of `m`. -/
theorem subOp_of_nmos {s : State} (h : s.profile = .nmos) (m : Byte) : subOp m s = addOpNmos (~~~m) s := by
  have hnot : m ^^^ 0xFF#8 = ~~~m := BitVec.xor_allOnes
  simp only [subOp, h, hnot]

theorem sub_subtrahend (m : Byte) (s : State) :
    s.a - subtrahend m s = BitVec.ofInt 8 ((s.a.toNat : Int) - m.toNat - (1 - carryNat s)) := by
  have hc := carryNat_le_one s
  have hsub : (subtrahend m s).toNat = (m.toNat + (1 - carryNat s)) % 256 := BitVec.toNat_ofNat _ _
  apply BitVec.eq_of_toNat_eq
  rw [BitVec.toNat_sub, hsub, BitVec.toNat_ofInt]
  omega

theorem add_not_carry (m : Byte) (s : State) :
    BitVec.ofNat 8 (s.a.toNat + (~~~m).toNat + carryNat s) =
      BitVec.ofInt 8 ((s.a.toNat : Int) - m.toNat - (1 - carryNat s)) := by
  have hm := m.isLt
  apply BitVec.eq_of_toNat_eq
  rw [BitVec.toNat_ofNat, BitVec.toNat_not, BitVec.toNat_ofInt]
  omega

/-- The result both profiles share (R176). -/
theorem subOp_a (m : Byte) (s : State) :
    (subOp m s).a = BitVec.ofInt 8 ((s.a.toNat : Int) - m.toNat - (1 - carryNat s)) := by
  cases h : s.profile with
  | source => rw [subOp_of_source h, loadA_a, sub_subtrahend]
  | nmos => rw [subOp_of_nmos h, ← add_not_carry, (nmosSumEffect_addOpNmos (~~~m) s).1]

theorem subtractEffect_subOp (m : Byte) (s : State) : subtractEffect m s (subOp m s) := by
  refine ⟨fun h => ?_, fun h => ?_, subOp_a m s, subOp_x m s, subOp_y m s, subOp_sp m s⟩
  · rw [subOp_of_source h, setCarryFlag, carryOf_eq_overflowAddOf, setOverflowSub, overflowSubOf_eq]
    exact ⟨loadA_a _ _, flagsBecome_arithmetic _ _ _ s⟩
  · rw [subOp_of_nmos h]
    exact nmosSumEffect_addOpNmos (~~~m) s

theorem sequential_subOp {i : Instr} {value : State → Byte}
    (hexec : ∀ s, exec i s = advance i (subOp (value s) s)) :
    Sequential (encode i) i (baseCycles i) fun s => sbcEffect (value s) s :=
  sequential_of_advance hexec
    (fun s => ⟨subOp_pc _ s, subOp_cycles _ s, subOp_run _ s, subOp_profile _ s⟩)
    (fun s _ _ => ⟨subtractEffect_subOp (value s) s, loadByte_congr (subOp_mem (value s) s)⟩)

/-- Settles O39: the borrow of SOURCE and the complement of NMOS give one result modulo 256. -/
theorem sbcSubtractsByProfile : Obligations.SbcSubtractsByProfile :=
  ⟨fun ii => sequential_subOp (i := .sbcImm ii) fun _ => rfl,
    fun zz => sequential_subOp (i := .sbcZp zz) fun _ => rfl,
    fun zz => sequential_subOp (i := .sbcZpx zz) fun _ => rfl,
    fun hhll => sequential_subOp (i := .sbcAbs hhll) fun _ => rfl,
    fun hhll => sequential_subOp (i := .sbcAbsx hhll) fun _ => rfl,
    fun hhll => sequential_subOp (i := .sbcAbsy hhll) fun _ => rfl,
    fun zz => sequential_subOp (i := .sbcIndx zz) fun _ => rfl,
    fun zz => sequential_subOp (i := .sbcIndy zz) fun _ => rfl⟩

/-! ## ISC (R178) -/

theorem byteStored_of_mem_eq_write {s t : State} {a : Word} {v : Byte} (h : t.mem = Memory.write s.mem a v) :
    ByteStored s t a v := by
  have hload (b : Word) : loadByte b t = Memory.read (Memory.write s.mem a v) b := congrArg (Memory.read · b) h
  exact ⟨(hload a).trans (Memory.read_write_same _ _ _),
    fun b hb => (hload b).trans (Memory.read_write_other _ _ hb)⟩

/-- The store comes first, and the subtraction reads nothing that it wrote. -/
theorem iscEffect_iscMem (o : MemOperand) (s : State) : iscEffect (effectiveAddress o s) s (iscMem o s) :=
  ⟨subtractEffect_subOp (operandValue o s + 1#8) (storeOperand o (operandValue o s + 1#8) s),
    byteStored_of_mem_eq_write (iscMem_mem o s)⟩

theorem sequential_iscMem {i : Instr} {o : MemOperand} (hexec : ∀ s, exec i s = advance i (iscMem o s)) :
    Sequential (encode i) i (baseCycles i) fun s => iscEffect (effectiveAddress o s) s :=
  sequential_of_advance hexec
    (fun s => ⟨iscMem_pc o s, iscMem_cycles o s, iscMem_run o s, iscMem_profile o s⟩)
    (fun s _ _ => iscEffect_iscMem o s)

/-- Settles O40: the byte subtracted is the one stored, and A and the flags follow from it as in SBC. -/
theorem iscIncrementsThenSubtracts : Obligations.IscIncrementsThenSubtracts :=
  ⟨fun zz => sequential_iscMem (i := .iscZp zz) fun _ => rfl,
    fun zz => sequential_iscMem (i := .iscZpx zz) fun _ => rfl,
    fun hhll => sequential_iscMem (i := .iscAbs hhll) fun _ => rfl,
    fun hhll => sequential_iscMem (i := .iscAbsx hhll) fun _ => rfl,
    fun hhll => sequential_iscMem (i := .iscAbsy hhll) fun _ => rfl,
    fun zz => sequential_iscMem (i := .iscIndx zz) fun _ => rfl,
    fun zz => sequential_iscMem (i := .iscIndy zz) fun _ => rfl⟩

end Sys2Proof.Machine
end

section
/-! PROOF. The compare instructions: CMP, CPX and CPY (44_compare.md R180 to R183). -/

namespace Sys2Proof.Machine

open Sys2Proof.Claims

/-! ## What a compare writes (R180) -/

theorem compareOp_of_source {s : State} (h : s.profile = .source) (r m : Byte) : compareOp r m s =
    setFlag .zero (r == m) (setFlag .carry (decide (r.toNat > m.toNat)) s) := by
  simp only [compareOp, h]

theorem compareOp_of_nmos {s : State} (h : s.profile = .nmos) (r m : Byte) : compareOp r m s =
    setFlag .negative (getBit (r - m) 7)
      (setFlag .zero (r == m) (setFlag .carry (decide (r.toNat ≥ m.toNat)) s)) := by
  simp only [compareOp, h]

/-- SOURCE stops after C and Z; NMOS also writes N, from the difference that is then discarded. -/
theorem compareEffect_compareOp (r m : Byte) (s : State) : compareEffect r m s (compareOp r m s) := by
  refine ⟨fun h f => ?_, fun h f => ?_,
    ⟨compareOp_a r m s, compareOp_x r m s, compareOp_y r m s, compareOp_sp r m s⟩,
    loadByte_congr (compareOp_mem r m s)⟩
  · rw [compareOp_of_source h, flag_setFlag, flag_setFlag]
    cases f <;> rfl
  · rw [compareOp_of_nmos h, flag_setFlag, flag_setFlag, flag_setFlag, getBit_eq_getLsbD]
    cases f <;> rfl

/-! ## CMP, CPX and CPY (R181 to R183) -/

/-- `reg` is the register compared and `value` the operand, both read in the state before. -/
theorem sequential_compareOp {i : Instr} {reg value : State → Byte}
    (hexec : ∀ s, exec i s = advance i (compareOp (reg s) (value s) s)) :
    Sequential (encode i) i (baseCycles i) fun s => compareEffect (reg s) (value s) s :=
  sequential_of_advance hexec
    (fun s => ⟨compareOp_pc _ _ s, compareOp_cycles _ _ s, compareOp_run _ _ s, compareOp_profile _ _ s⟩)
    (fun s _ _ => compareEffect_compareOp (reg s) (value s) s)

/-- Settles O41: each form is the one operation `compareOp`, of its mnemonic's register and its own operand. -/
theorem comparesWriteOnlyFlags : Obligations.ComparesWriteOnlyFlags :=
  ⟨fun ii => sequential_compareOp (i := .cmpImm ii) fun _ => rfl,
    fun zz => sequential_compareOp (i := .cmpZp zz) fun _ => rfl,
    fun zz => sequential_compareOp (i := .cmpZpx zz) fun _ => rfl,
    fun hhll => sequential_compareOp (i := .cmpAbs hhll) fun _ => rfl,
    fun hhll => sequential_compareOp (i := .cmpAbsx hhll) fun _ => rfl,
    fun hhll => sequential_compareOp (i := .cmpAbsy hhll) fun _ => rfl,
    fun zz => sequential_compareOp (i := .cmpIndx zz) fun _ => rfl,
    fun zz => sequential_compareOp (i := .cmpIndy zz) fun _ => rfl,
    fun ii => sequential_compareOp (i := .cpxImm ii) fun _ => rfl,
    fun zz => sequential_compareOp (i := .cpxZp zz) fun _ => rfl,
    fun hhll => sequential_compareOp (i := .cpxAbs hhll) fun _ => rfl,
    fun ii => sequential_compareOp (i := .cpyImm ii) fun _ => rfl,
    fun zz => sequential_compareOp (i := .cpyZp zz) fun _ => rfl,
    fun hhll => sequential_compareOp (i := .cpyAbs hhll) fun _ => rfl⟩

end Sys2Proof.Machine
end

section
/-! PROOF. The shifts ASL and LSR and the rotates ROL and ROR (45_shift_rotate.md R190 to R193). -/

namespace Sys2Proof.Machine

open Sys2Proof.Claims

/-! ## What every shift and rotate writes -/

theorem controlKept_shiftFlags (c : Bool) (r : Byte) (s : State) : ControlKept s (shiftFlags c r s) :=
  ⟨shiftFlags_pc c r s, shiftFlags_cycles c r s, shiftFlags_run c r s, shiftFlags_profile c r s⟩

theorem regsKept_shiftFlags (c : Bool) (r : Byte) (s : State) : RegsKept s (shiftFlags c r s) :=
  ⟨shiftFlags_a c r s, shiftFlags_x c r s, shiftFlags_y c r s, shiftFlags_sp c r s⟩

theorem flagsBecome_shiftFlags (c : Bool) (r : Byte) (s : State) :
    FlagsBecome s (shiftFlags c r s) ((.carry, c) :: znOf r) := by
  intro f
  rw [flag_shiftFlags, getBit_eq_getLsbD]
  cases f <;> rfl

theorem byteStored_storeOperand_shiftFlags (o : MemOperand) (c : Bool) (r : Byte) (s : State) :
    ByteStored s (storeOperand o r (shiftFlags c r s)) (effectiveAddress o s) r := by
  apply byteStored_of_mem_eq_write
  rw [storeOperand_mem, effectiveAddress_shiftFlags, shiftFlags_mem]

section
variable {i : Instr} {carry : State → Bool} {result : State → Byte}

/-- `carry` is the bit shifted out and `result` the shifted byte, both read in the state before. -/
theorem sequential_shiftAcc
    (hexec : ∀ s, exec i s = advance i ((shiftFlags (carry s) (result s) s).setA (result s))) :
    Sequential (encode i) i (baseCycles i) fun s t => RegsAre t (result s) s.x s.y s.sp ∧
      FlagsBecome s t ((.carry, carry s) :: znOf (result s)) ∧ MemoryKept s t :=
  sequential_of_advance hexec
    (fun s => controlKept_shiftFlags (carry s) (result s) s)
    (fun s _ _ => ⟨⟨rfl, (regsKept_shiftFlags (carry s) (result s) s).2⟩,
      flagsBecome_shiftFlags (carry s) (result s) s, loadByte_congr (shiftFlags_mem (carry s) (result s) s)⟩)

theorem sequential_shiftMem {o : MemOperand}
    (hexec : ∀ s, exec i s = advance i (storeOperand o (result s) (shiftFlags (carry s) (result s) s))) :
    Sequential (encode i) i (baseCycles i) fun s t => RegsKept s t ∧
      FlagsBecome s t ((.carry, carry s) :: znOf (result s)) ∧
      ByteStored s t (effectiveAddress o s) (result s) :=
  sequential_of_advance hexec
    (fun s => controlKept_shiftFlags (carry s) (result s) s)
    (fun s _ _ => ⟨regsKept_shiftFlags (carry s) (result s) s, flagsBecome_shiftFlags (carry s) (result s) s,
      byteStored_storeOperand_shiftFlags o (carry s) (result s) s⟩)

end

/-! ## ASL and LSR (R190, R191) -/

theorem aslAcc_eq (s : State) :
    aslAcc s = (shiftFlags (s.a.getLsbD 7) (aslValue s.a) s).setA (aslValue s.a) := by
  rw [aslAcc, aslOf_eq_aslValue, getBit_eq_getLsbD]
  rfl

theorem lsrAcc_eq (s : State) :
    lsrAcc s = (shiftFlags (s.a.getLsbD 0) (lsrValue s.a) s).setA (lsrValue s.a) := by
  rw [lsrAcc, lsrOf_eq_lsrValue, getBit_eq_getLsbD]
  rfl

theorem aslMem_eq (o : MemOperand) (s : State) : aslMem o s =
    storeOperand o (aslValue (operandValue o s))
      (shiftFlags ((operandValue o s).getLsbD 7) (aslValue (operandValue o s)) s) := by
  rw [aslMem, aslOf_eq_aslValue, getBit_eq_getLsbD]
  rfl

theorem lsrMem_eq (o : MemOperand) (s : State) : lsrMem o s =
    storeOperand o (lsrValue (operandValue o s))
      (shiftFlags ((operandValue o s).getLsbD 0) (lsrValue (operandValue o s)) s) := by
  rw [lsrMem, lsrOf_eq_lsrValue, getBit_eq_getLsbD]
  rfl

section
variable {i : Instr} {o : MemOperand}

theorem sequential_aslMem (hexec : ∀ s, exec i s = advance i (aslMem o s)) :
    Sequential (encode i) i (baseCycles i) fun s => aslMemEffect (effectiveAddress o s) s :=
  sequential_shiftMem fun s => (hexec s).trans (congrArg (advance i) (aslMem_eq o s))

theorem sequential_lsrMem (hexec : ∀ s, exec i s = advance i (lsrMem o s)) :
    Sequential (encode i) i (baseCycles i) fun s => lsrMemEffect (effectiveAddress o s) s :=
  sequential_shiftMem fun s => (hexec s).trans (congrArg (advance i) (lsrMem_eq o s))

end

/-- Settles O42: each form writes the shift flags, then its result to A or to the byte it read. -/
theorem shiftsMoveTheBitIntoCarry : Obligations.ShiftsMoveTheBitIntoCarry :=
  ⟨sequential_shiftAcc (i := .aslAcc) fun s => congrArg (advance .aslAcc) (aslAcc_eq s),
    fun zz => sequential_aslMem (i := .aslZp zz) fun _ => rfl,
    fun zz => sequential_aslMem (i := .aslZpx zz) fun _ => rfl,
    fun hhll => sequential_aslMem (i := .aslAbs hhll) fun _ => rfl,
    fun hhll => sequential_aslMem (i := .aslAbsx hhll) fun _ => rfl,
    sequential_shiftAcc (i := .lsrAcc) fun s => congrArg (advance .lsrAcc) (lsrAcc_eq s),
    fun zz => sequential_lsrMem (i := .lsrZp zz) fun _ => rfl,
    fun zz => sequential_lsrMem (i := .lsrZpx zz) fun _ => rfl,
    fun hhll => sequential_lsrMem (i := .lsrAbs hhll) fun _ => rfl,
    fun hhll => sequential_lsrMem (i := .lsrAbsx hhll) fun _ => rfl⟩

/-! ## ROL and ROR (R192, R193) -/

theorem rolAcc_eq (s : State) :
    rolAcc s = (shiftFlags (s.a.getLsbD 7) (rolValue s.a s) s).setA (rolValue s.a s) := by
  rw [rolAcc, rolOf_eq_rolValue, getBit_eq_getLsbD]
  rfl

theorem rorAcc_eq (s : State) :
    rorAcc s = (shiftFlags (s.a.getLsbD 0) (rorValue s.a s) s).setA (rorValue s.a s) := by
  rw [rorAcc, rorOf_eq_rorValue, getBit_eq_getLsbD]
  rfl

theorem rolMem_eq (o : MemOperand) (s : State) : rolMem o s =
    storeOperand o (rolValue (operandValue o s) s)
      (shiftFlags ((operandValue o s).getLsbD 7) (rolValue (operandValue o s) s) s) := by
  rw [rolMem, rolOf_eq_rolValue, getBit_eq_getLsbD]
  rfl

theorem rorMem_eq (o : MemOperand) (s : State) : rorMem o s =
    storeOperand o (rorValue (operandValue o s) s)
      (shiftFlags ((operandValue o s).getLsbD 0) (rorValue (operandValue o s) s) s) := by
  rw [rorMem, rorOf_eq_rorValue, getBit_eq_getLsbD]
  rfl

section
variable {i : Instr} {o : MemOperand}

theorem sequential_rolMem (hexec : ∀ s, exec i s = advance i (rolMem o s)) :
    Sequential (encode i) i (baseCycles i) fun s => rolMemEffect (effectiveAddress o s) s :=
  sequential_shiftMem fun s => (hexec s).trans (congrArg (advance i) (rolMem_eq o s))

theorem sequential_rorMem (hexec : ∀ s, exec i s = advance i (rorMem o s)) :
    Sequential (encode i) i (baseCycles i) fun s => rorMemEffect (effectiveAddress o s) s :=
  sequential_shiftMem fun s => (hexec s).trans (congrArg (advance i) (rorMem_eq o s))

end

/-- Settles O43: the carry is read in the state before, so the bit shifted in is the old one. -/
theorem rotatesGoThroughCarry : Obligations.RotatesGoThroughCarry :=
  ⟨sequential_shiftAcc (i := .rolAcc) fun s => congrArg (advance .rolAcc) (rolAcc_eq s),
    fun zz => sequential_rolMem (i := .rolZp zz) fun _ => rfl,
    fun zz => sequential_rolMem (i := .rolZpx zz) fun _ => rfl,
    fun hhll => sequential_rolMem (i := .rolAbs hhll) fun _ => rfl,
    fun hhll => sequential_rolMem (i := .rolAbsx hhll) fun _ => rfl,
    sequential_shiftAcc (i := .rorAcc) fun s => congrArg (advance .rorAcc) (rorAcc_eq s),
    fun zz => sequential_rorMem (i := .rorZp zz) fun _ => rfl,
    fun zz => sequential_rorMem (i := .rorZpx zz) fun _ => rfl,
    fun hhll => sequential_rorMem (i := .rorAbs hhll) fun _ => rfl,
    fun hhll => sequential_rorMem (i := .rorAbsx hhll) fun _ => rfl⟩

end Sys2Proof.Machine
end

section
/-! PROOF. INC and DEC of a byte of memory, and the counts of X and Y (46_inc_dec.md R200 to R205). -/

namespace Sys2Proof.Machine

open Sys2Proof.Claims

/-! ## INC and DEC (R200, R201) -/

section
variable {i : Instr} {o : MemOperand}

/-- `result` is the byte stored, counted from the operand in the state before; Z and N are set after the store,
which changes no flag. -/
theorem sequential_countMem {result : State → Byte}
    (hexec : ∀ s, exec i s = advance i (setZN (result s) (storeOperand o (result s) s))) :
    Sequential (encode i) i (baseCycles i) fun s t => RegsKept s t ∧
      FlagsBecome s t (znOf (result s)) ∧ ByteStored s t (effectiveAddress o s) (result s) :=
  sequential_of_advance hexec (fun _ => ⟨rfl, rfl, rfl, rfl⟩)
    (fun s _ _ => ⟨⟨rfl, rfl, rfl, rfl⟩, flagsBecome_setZN (result s) (storeOperand o (result s) s),
      byteStored_storeOperand o (result s) s⟩)

theorem sequential_incMem (hexec : ∀ s, exec i s = advance i (incMem o s)) :
    Sequential (encode i) i (baseCycles i) fun s => incEffect (effectiveAddress o s) s :=
  sequential_countMem (result := fun s => operandValue o s + 1#8) hexec

theorem sequential_decMem (hexec : ∀ s, exec i s = advance i (decMem o s)) :
    Sequential (encode i) i (baseCycles i) fun s => decEffect (effectiveAddress o s) s :=
  sequential_countMem (result := fun s => operandValue o s - 1#8) hexec

end

/-- Settles O44: each form stores the counted byte at the address it was read from, and neither writes C or V. -/
theorem memoryCountsByOne : Obligations.MemoryCountsByOne :=
  ⟨fun zz => sequential_incMem (i := .incZp zz) fun _ => rfl,
    fun zz => sequential_incMem (i := .incZpx zz) fun _ => rfl,
    fun hhll => sequential_incMem (i := .incAbs hhll) fun _ => rfl,
    fun hhll => sequential_incMem (i := .incAbsx hhll) fun _ => rfl,
    fun zz => sequential_decMem (i := .decZp zz) fun _ => rfl,
    fun zz => sequential_decMem (i := .decZpx zz) fun _ => rfl,
    fun hhll => sequential_decMem (i := .decAbs hhll) fun _ => rfl,
    fun hhll => sequential_decMem (i := .decAbsx hhll) fun _ => rfl⟩

/-! ## INX, INY, DEX and DEY (R202 to R205) -/

/-- Settles O45: a count of X or Y is the load of its own value plus or minus 1, so it writes Z and N alone. -/
theorem indexRegistersCountByOne : Obligations.IndexRegistersCountByOne :=
  ⟨sequential_loadX (i := .inx) fun _ => rfl,
    sequential_loadY (i := .iny) fun _ => rfl,
    sequential_loadX (i := .dex) fun _ => rfl,
    sequential_loadY (i := .dey) fun _ => rfl⟩

end Sys2Proof.Machine
end

section
/-! PROOF. How a run ends (60_exceptions.md R300 to R303), and the two directions of encoding (30_encoding.md sections
1 and 2). -/

namespace Sys2Proof.Machine

open Sys2Proof.Claims

/-! ## Encoding -/

/-- Settles O2: the encoding stands in the opcode map the decoder reads. -/
theorem decodeOfEncodeReturnsTheInstruction : Obligations.DecodeOfEncodeReturnsTheInstruction :=
  decode_encode_append

/-- Settles O3: what the decoder takes from the front stands in the opcode map, and so is the encoding. -/
theorem decodedBytesAreTheEncoding : Obligations.DecodedBytesAreTheEncoding :=
  fun _ _ _ => encode_append_of_decode

theorem decode_encode (i : Instr) : decode (encode i) = .ok (i, []) := by
  simpa only [List.append_nil] using decode_encode_append i []

/-! ## Completion -/

/-- Settles O21. -/
theorem everyInstructionCompletes : Obligations.EveryInstructionCompletes := exec_completes

/-! ## Run after a step -/

theorem MnemonicEffect.run_eq {m : Mnemonic} {s u : State} (h : MnemonicEffect s m u) :
    u.run = if m = .brk then .halted else s.run := by
  cases h with
  | branchTaken hm | branchNotTaken hm =>
    have hne : m ≠ .brk := by rintro rfl; simp [branchMnemonics] at hm
    simp [hne]
  | _ => simp

/-- BRK ends the run, and no other instruction writes Run (R300, R303). -/
theorem exec_run {i : Instr} {s t : State} (h : exec i s = .next t) :
    t.run = if (rowOf i).mnemonic = .brk then .halted else s.run := by
  obtain ⟨u, heffect, hend⟩ := exec_cases h
  have htu : t.run = u.run := by rw [ending_eq hend]; rfl
  rw [htu, heffect.run_eq]

/-- Only the encoding of BRK begins with 00 (30_encoding.md R74). -/
theorem mnemonic_eq_brk_iff {op : Byte} {i : Instr} {bytes rest : List Byte}
    (h : decode (op :: bytes) = .ok (i, rest)) : (rowOf i).mnemonic = .brk ↔ op = 0x00#8 := by
  have henc : op :: bytes = encode i ++ rest := encode_append_of_decode h
  cases i with
  | brk => simpa [encode, rowOf] using (List.cons.inj henc).1
  | _ => rw [(List.cons.inj henc).1]; simp [rowOf]

/-- A running step whose opcode is one of the 98 records the fault, and writes nothing else (R301). -/
theorem step_of_unknownOpcode {s : State} (hrun : s.run = .running) (hop : loadByte s.pc s ∈ unknownOpcodes) :
    step s = .next (raiseUnknownOpcode (loadByte s.pc s) s.pc s) :=
  step_of_decode_error hrun ((decode_three_eq_unknownOpcode_iff _ _ _).2 ((mem_unknownOpcodes_iff _).1 hop))

theorem mem_unknownOpcodes_of_decode_error {op b1 b2 : Byte} {e : DecodeError} (h : decode [op, b1, b2] = .error e) :
    op ∈ unknownOpcodes := by
  rw [decode_three_error h, decode_three_eq_unknownOpcode_iff] at h
  exact (mem_unknownOpcodes_iff op).2 h

theorem not_mem_unknownOpcodes_of_decode {op b1 b2 : Byte} {i : Instr} {rest : List Byte}
    (h : decode [op, b1, b2] = .ok (i, rest)) : op ∉ unknownOpcodes := by
  rw [mem_unknownOpcodes_iff, ← decode_three_eq_unknownOpcode_iff op b1 b2, h]
  exact nofun

theorem zero_not_mem_unknownOpcodes : 0x00#8 ∉ unknownOpcodes := by decide

/-- The three ways a step leaves Run, by the opcode byte: BRK, an opcode without a handler, any other (R300). -/
theorem step_run_cases {s t : State} (h : step s = .next t) :
    (loadByte s.pc s = 0x00#8 ∧ loadByte s.pc s ∉ unknownOpcodes ∧ t.run = .halted) ∨
    (loadByte s.pc s ≠ 0x00#8 ∧ loadByte s.pc s ∈ unknownOpcodes ∧ t.run = .faulted (loadByte s.pc s) s.pc) ∨
    (loadByte s.pc s ≠ 0x00#8 ∧ loadByte s.pc s ∉ unknownOpcodes ∧ t.run = .running) := by
  obtain ⟨i, rest, hd, hexec⟩ | ⟨e, hd, rfl⟩ := step_cases h
  · have hop := not_mem_unknownOpcodes_of_decode hd
    by_cases hm : (rowOf i).mnemonic = .brk
    · exact .inl ⟨(mnemonic_eq_brk_iff hd).1 hm, hop, (exec_run hexec).trans (if_pos hm)⟩
    · have ht : t.run = s.run := (exec_run hexec).trans (if_neg hm)
      exact .inr (.inr ⟨mt (mnemonic_eq_brk_iff hd).2 hm, hop, ht.trans (running_of_step h)⟩)
  · have hop := mem_unknownOpcodes_of_decode_error hd
    exact .inr (.inl ⟨fun hbrk => zero_not_mem_unknownOpcodes (hbrk ▸ hop), hop, rfl⟩)

/-- Settles O14: each way of `step_run_cases` decides every clause; the last is that only a running state steps. -/
theorem onlyBrkAndUnknownOpcodesEndTheRun : Obligations.OnlyBrkAndUnknownOpcodesEndTheRun := by
  intro s t h
  have hterminal : t.run ≠ .running → ∀ u, step t ≠ .next u := fun hended u hu => hended (running_of_step hu)
  refine ⟨running_of_step h, ?_⟩
  obtain ⟨hbrk, hop, ht⟩ | ⟨hbrk, hop, ht⟩ | ⟨hbrk, hop, ht⟩ := step_run_cases h <;>
    simp [runFailed, hbrk, hop, ht, hterminal, zero_not_mem_unknownOpcodes]

/-- Settles O8: the record is all that the step writes, and an instruction writes Run only to halt it. -/
theorem unknownOpcodeEndsTheRunAndChangesNothingElse :
    Obligations.UnknownOpcodeEndsTheRunAndChangesNothingElse :=
  ⟨fun _ hrun hop =>
      ⟨_, step_of_unknownOpcode hrun hop, rfl, ⟨rfl, rfl, rfl, rfl⟩, rfl, rfl, rfl, rfl, rfl, rfl⟩,
    fun _ _ _ => step_of_faulted, fun _ _ _ => exec_runFailed⟩

end Sys2Proof.Machine
end

section
/-! PROOF. The branches (47_branch.md R210 to R218), the flag instructions and NOP (49_flag_break_nop.md R230 to R236,
R238). -/

namespace Sys2Proof.Machine

open Sys2Proof.Claims

/-! ## Branches -/

/-- An instruction whose meaning is `branch` on `cond`, with the length of its encoding and a base cost of 2, is a
branch on that condition (R210, R115). -/
theorem branchForm_of_branch {op : Byte} {con : Byte → Instr} {cond : State → Bool}
    (hexec : ∀ oo s, exec (con oo) s = branch (con oo) (cond s) oo s) (hencode : ∀ oo, encode (con oo) = [op, oo])
    (hcost : ∀ oo, baseCycles (con oo) = 2) : BranchForm op con cond := by
  intro oo
  have hlength : instrLength (con oo) = 2 := (length_encode (con oo)).symm.trans (by rw [hencode]; rfl)
  refine ⟨hencode oo ▸ decode_encode (con oo), fun s => ?_⟩
  have htarget := (ofInt_branch_target s.pc oo).symm
  rw [hexec, branch_next, hlength, hcost]
  refine ⟨_, rfl, fun hc => ?_, fun hc => ?_, ?_⟩
  · rw [if_pos hc]
    exact ⟨htarget, rfl⟩
  · rw [if_neg (Bool.eq_false_iff.1 hc)]
    exact ⟨rfl, rfl⟩
  · cases cond s <;> exact ⟨⟨rfl, rfl, rfl, rfl⟩, rfl, fun _ => rfl, rfl, rfl⟩

/-- Settles O46: each of the seven is `branch` on its own condition. -/
theorem branchesTakeTheirCondition : Obligations.BranchesTakeTheirCondition := by
  and_intros <;> exact branchForm_of_branch (fun _ _ => rfl) (fun _ => rfl) (fun _ => rfl)

/-- Settles O47: BMI is `branch` on `minusCondition`, which in the SOURCE profile is the condition of BNE. -/
theorem bmiTestsTheProfilesFlag : Obligations.BmiTestsTheProfilesFlag := by
  refine ⟨branchForm_of_branch (fun oo s => ?_) (fun _ => rfl) (fun _ => rfl), fun oo s hsource => ?_⟩
  · rw [← minusCondition_eq]
    rfl
  · have hcond : minusCondition s = !flag .zero s := (minusCondition_eq s).trans (if_pos hsource)
    exact congrArg (branch (.bne oo) · oo s) hcond

/-! ## Flag instructions -/

/-- An instruction that writes one bit of P and advances PC. -/
theorem sequential_setFlag {i : Instr} {f : Flag} {v : Bool} (hexec : ∀ s, exec i s = advance i (setFlag f v s)) :
    Sequential (encode i) i (baseCycles i) fun s t =>
      RegsKept s t ∧ FlagsBecome s t [(f, v)] ∧ MemoryKept s t :=
  sequential_of_advance hexec (fun _ => ⟨rfl, rfl, rfl, rfl⟩)
    fun s _ _ => ⟨⟨rfl, rfl, rfl, rfl⟩, flagsBecome_setFlag f v s, fun _ => rfl⟩

/-- Settles O52. -/
theorem flagInstructionsWriteOneBit : Obligations.FlagInstructionsWriteOneBit :=
  ⟨sequential_setFlag (i := .clc) fun _ => rfl,
    sequential_setFlag (i := .cld) fun _ => rfl,
    sequential_setFlag (i := .cli) fun _ => rfl,
    sequential_setFlag (i := .clv) fun _ => rfl,
    sequential_setFlag (i := .sec) fun _ => rfl,
    sequential_setFlag (i := .sed) fun _ => rfl,
    sequential_setFlag (i := .sei) fun _ => rfl⟩

/-! ## NOP -/

/-- Settles O53: `advance` alone, and bytes that decode to NOP begin with its encoding. -/
theorem nopOnlyAdvances : Obligations.NopOnlyAdvances := by
  refine ⟨fun _ => rfl, fun op b1 b2 rest => ⟨fun h => ?_, ?_⟩⟩
  · have hnop : [op, b1, b2] = 0xEA#8 :: rest := encode_append_of_decode h
    obtain ⟨hop, hrest⟩ := List.cons.inj hnop
    exact ⟨hop, hrest.symm⟩
  · rintro ⟨rfl, rfl⟩
    exact decode_encode_append .nop [b1, b2]

end Sys2Proof.Machine
end

section
/-! PROOF. JSR, RTS and RTI (48_jump_subroutine.md R221 to R223), and BRK (49_flag_break_nop.md R237). -/

namespace Sys2Proof.Machine

open Sys2Proof.Claims

/-! ## Reading a completed instruction -/

/-- The state `exec` answers is the one `Completes` describes. -/
theorem post_of_exec {bytes : List Byte} {i : Instr} {post : State → State → Prop} {s t : State}
    (hcompletes : Completes bytes i post) (ht : exec i s = .next t) : post s t := by
  obtain ⟨t', ht', hpost⟩ := hcompletes.2 s
  cases ht'.symm.trans ht
  exact hpost

/-! ## Two bytes pushed -/

theorem stackAddress_ne {a b : Byte} (h : a ≠ b) : stackAddress a ≠ stackAddress b := mt (stackAddress_inj a b).1 h

/-- The second push does not reach the byte of the first, where SP wraps too. -/
theorem loadByte_push16_high (v : Word) (s : State) : loadByte (stackAddress s.sp) (push16 v s) = hiByte v := by
  have hne : s.sp ≠ (push8 (hiByte v) s).sp := by rw [push8_sp]; bv_omega
  rw [push16, (byteStored_push8 _ _).2 _ (stackAddress_ne hne)]
  exact (byteStored_push8 (hiByte v) s).1

theorem loadByte_push16_low (v : Word) (s : State) :
    loadByte (stackAddress (s.sp - 1#8)) (push16 v s) = loByte v :=
  (byteStored_push8 (loByte v) (push8 (hiByte v) s)).1

/-! ## JSR (R221) -/

@[simp] theorem callSubroutine_sp (target : Word) (s : State) : (callSubroutine target s).sp = s.sp - 2#8 :=
  push16_sp (s.pc + returnOffset s.profile) s

@[simp] theorem callSubroutine_pc (target : Word) (s : State) : (callSubroutine target s).pc = target := rfl

theorem loadByte_callSubroutine (target a : Word) (s : State) : loadByte a (callSubroutine target s) =
    loadByte a (push16 (s.pc + returnOffset s.profile) s) := loadByte_congr (callSubroutine_mem target s) a

/-- Settles O49: JSR is `push16` of the return value and a transfer to the operand. -/
theorem jsrPushesItsReturnValue : Obligations.JsrPushesItsReturnValue := by
  intro w
  refine ⟨decode_encode (.jsr w), fun s => ?_⟩
  have hcost : baseCycles (.jsr w) = 6 := rfl
  have ht : exec (.jsr w) s = .next (charge (baseCycles (.jsr w)) (callSubroutine w s)) := rfl
  refine ⟨_, ht, by simp, by simp [hcost], by simp [RegsAre], by simp [FlagsKept], by simp [GoesOn], ?_, ?_,
    memoryChangesOnlyWhereTheInstructionStores _ s _ ht⟩
  · rw [← returnOffset_eq]
    exact (loadByte_callSubroutine w _ s).trans (loadByte_push16_high _ s)
  · rw [← returnOffset_eq]
    exact (loadByte_callSubroutine w _ s).trans (loadByte_push16_low _ s)

/-! ## RTS (R222) -/

/-- Two pulls read the two bytes above SP, the low one first. -/
theorem pulled16_eq (s : State) : pulled16 s =
    wordOf (loadByte (stackAddress (s.sp + 2#8)) s) (loadByte (stackAddress (s.sp + 1#8)) s) := by
  have hsp : s.sp + 1#8 + 1#8 = s.sp + 2#8 := by bv_omega
  rw [pulled16, pulled8, pulled8, pull8_sp, hsp]
  rfl

theorem resumeOffset_toNat (pr : Profile) : (resumeOffset pr).toNat = if pr = .source then 2 else 1 := by
  cases pr <;> rfl

@[simp] theorem returnFromSubroutine_sp (s : State) : (returnFromSubroutine s).sp = s.sp + 2#8 :=
  BitVec.add_assoc s.sp 1#8 1#8

theorem returnFromSubroutine_pc (s : State) :
    (returnFromSubroutine s).pc = pulled16 s + resumeOffset s.profile := rfl

/-- In each profile what RTS adds makes up for what JSR left out (R221, R222). -/
theorem returnOffset_add_resumeOffset (pr : Profile) : returnOffset pr + resumeOffset pr = 3#16 := by
  cases pr <;> rfl

/-- Settles O50: after a JSR the two pulls give the value it pushed. -/
theorem rtsResumesAfterThePulledValue : Obligations.RtsResumesAfterThePulledValue := by
  constructor
  · refine ⟨decode_encode .rts, fun s => ?_⟩
    have hcost : baseCycles .rts = 6 := rfl
    refine ⟨charge (baseCycles .rts) (returnFromSubroutine s), rfl, ?_, by simp [hcost],
      by simp [RegsAre], by simp [FlagsKept], loadByte_congr (by simp), by simp [GoesOn]⟩
    rw [charge_pc, returnFromSubroutine_pc, BitVec.toNat_add, pulled16_eq, wordOf_toNat, resumeOffset_toNat]
  · intro w s t u v ht husp hprofile hhigh hlow hv
    obtain ⟨-, -, ⟨-, -, -, htsp⟩, -, -, hpushedHigh, hpushedLow, -⟩ :=
      post_of_exec (jsrPushesItsReturnValue w) ht
    cases hv
    have hsp1 : u.sp + 1#8 = s.sp - 1#8 := by rw [husp, htsp]; bv_omega
    have hsp2 : u.sp + 2#8 = s.sp := by rw [husp, htsp, BitVec.sub_add_cancel]
    have hpulled : pulled16 u = s.pc + returnOffset s.profile := by
      rw [pulled16_eq, hsp1, hsp2, hhigh, hlow, hpushedHigh, hpushedLow, wordOf_hiByte_loByte, returnOffset_eq]
    refine ⟨?_, (returnFromSubroutine_sp u).trans hsp2⟩
    rw [charge_pc, returnFromSubroutine_pc, hpulled, hprofile, BitVec.add_assoc, returnOffset_add_resumeOffset]

/-! ## RTI (R223) -/

theorem returnFromTrap_pc (s : State) : (returnFromTrap s).pc =
    wordOf (loadByte (stackAddress (s.sp + 3#8)) s) (loadByte (stackAddress (s.sp + 2#8)) s) := by
  have h2 : s.sp + 1#8 + 1#8 = s.sp + 2#8 := by bv_omega
  have h3 : s.sp + 1#8 + 2#8 = s.sp + 3#8 := by bv_omega
  rw [← h2, ← h3]
  exact pulled16_eq (pullStatus s)

/-- Settles O51: P is that of PLP, and PC the next two bytes as they are. -/
theorem rtiRestoresStatusAndPc : Obligations.RtiRestoresStatusAndPc := by
  refine ⟨decode_encode .rti, fun s => ?_⟩
  have hcost : baseCycles .rti = 6 := rfl
  refine ⟨charge (baseCycles .rti) (returnFromTrap s), rfl, pullStatus_p_of_source, flag_pullStatus_of_nmos, ?_,
    by simp [hcost], by simp [RegsAre], loadByte_congr (by simp), by simp [GoesOn]⟩
  rw [charge_pc, returnFromTrap_pc, wordOf_toNat]

/-! ## BRK (R237) -/

/-- A push leaves every byte above page 1 as it was. -/
theorem loadByte_push8_of_le {a : Word} (ha : 512 ≤ a.toNat) (v : Byte) (s : State) :
    loadByte a (push8 v s) = loadByte a s := by
  refine (byteStored_push8 v s).2 a fun hstack => ?_
  rw [hstack, stackAddress_toNat] at ha
  omega

/-- The vector is read after the pushes, which do not reach it (R237, 20_memory.md R51). -/
theorem takeBreak_pc (s : State) :
    (takeBreak s).pc = wordOf (loadByte brkVectorHigh s) (loadByte brkVectorLow s) := by
  have hkept {a : Word} (ha : 512 ≤ a.toNat) :
      loadByte a (markBroken (push8 (brokenStatus s.profile s.p) (push16 (s.pc + 2#16) s))) = loadByte a s := by
    rw [loadByte_congr (markBroken_mem _), loadByte_push8_of_le ha, push16, loadByte_push8_of_le ha,
      loadByte_push8_of_le ha]
  rw [takeBreak, State.pc_setPc, hkept (by decide), hkept (by decide)]

theorem flagsBecome_takeBreak_of_source {s : State} (h : s.profile = .source) :
    FlagsBecome s (takeBreak s) [(.brk, true)] := by
  intro f
  rw [flag_takeBreak]
  cases f <;> simp [h, List.lookup] <;> rfl

theorem flagsBecome_takeBreak_of_nmos {s : State} (h : s.profile = .nmos) :
    FlagsBecome s (takeBreak s) [(.brk, true), (.interruptDisable, true)] := by
  intro f
  rw [flag_takeBreak]
  cases f <;> simp [h, List.lookup] <;> rfl

/-- What BRK leaves in memory: P under the two bytes of PC + 2. -/
theorem loadByte_takeBreak (a : Word) (s : State) : loadByte a (takeBreak s) =
    if a = stackAddress (s.sp - 2#8) then brokenStatus s.profile s.p else loadByte a (push16 (s.pc + 2#16) s) := by
  rw [loadByte, takeBreak_mem, Memory.read_write]
  rfl

/-- Settles O54: the third push leaves the two of PC + 2, and the vector is read after all three. -/
theorem brkTrapsAndHalts : Obligations.BrkTrapsAndHalts := by
  refine ⟨decode_encode .brk, fun s => ?_⟩
  have hcost : baseCycles .brk = 7 := rfl
  have ht : exec .brk s = .next (charge (baseCycles .brk) (halt (takeBreak s))) := rfl
  refine ⟨_, ht, by simp [RegsAre], ?_, ?_, ?_, memoryChangesOnlyWhereTheInstructionStores _ s _ ht,
    flagsBecome_takeBreak_of_source, flagsBecome_takeBreak_of_nmos, takeBreak_pc s, by simp [hcost], by simp, by simp⟩
  · have hne : s.sp ≠ s.sp - 2#8 := by bv_omega
    exact (loadByte_takeBreak _ s).trans ((if_neg (stackAddress_ne hne)).trans (loadByte_push16_high _ s))
  · have hne : s.sp - 1#8 ≠ s.sp - 2#8 := by bv_omega
    exact (loadByte_takeBreak _ s).trans ((if_neg (stackAddress_ne hne)).trans (loadByte_push16_low _ s))
  · rw [← brokenStatus_eq]
    exact (loadByte_takeBreak _ s).trans (if_pos rfl)

end Sys2Proof.Machine
end

section
/-! PROOF. The program image loader (70_reset_and_hazards.md R411) and the cartridge reader (R412). -/

namespace Sys2Proof.Machine

open Sys2Proof.Claims

/-! ## Bytes stored in a row -/

section
variable {base : Word} {bs : List Byte} (hfits : base.toNat + bs.length ≤ 65536) (s : State)
include hfits

theorem loadByte_storeBytes_inside {i : Nat} (hi : i < bs.length) :
    loadByte (BitVec.ofNat 16 (base.toNat + i)) (storeBytes base bs s) = bs[i] := by
  have haddr : (BitVec.ofNat 16 (base.toNat + i)).toNat = base.toNat + i := by
    rw [BitVec.toNat_ofNat, Nat.mod_eq_of_lt (by omega)]
  rw [loadByte_storeBytes _ _ _ _ hfits, haddr, if_pos (by omega), Nat.add_sub_cancel_left,
    List.getD_eq_getElem _ _ hi]

theorem loadByte_storeBytes_outside {a : Word} (ha : a.toNat < base.toNat ∨ base.toNat + bs.length ≤ a.toNat) :
    loadByte a (storeBytes base bs s) = loadByte a s := by
  rw [loadByte_storeBytes _ _ _ _ hfits, if_neg (by omega)]

end

/-! ## The program image loader (R411) -/

theorem loadProgram_of_fits {prog : List Byte} {base : Word} (h : base.toNat + prog.length ≤ 65536) (s : State) :
    loadProgram prog base s = .ok ((storeBytes base prog s).setPc base) := by
  rw [loadProgram_eq, if_pos h]

/-- Settles O57: an image that fits does not wrap, so each of its bytes has an address of its own. -/
theorem programLoaderPlacesTheImage : Obligations.ProgramLoaderPlacesTheImage := by
  refine fun prog base s => ⟨fun hover => ?_, fun hfits => ⟨_, loadProgram_of_fits hfits s, ?_⟩⟩
  · rw [loadProgram_eq, if_neg (by omega)]
  · exact ⟨fun i hi => loadByte_storeBytes_inside hfits s hi, fun a ha => loadByte_storeBytes_outside hfits s ha,
      rfl, by simp [RegsAre, RegsKept], by simp [FlagsKept], by simp, by simp [GoesOn]⟩

/-! ## The checks of the cartridge reader (R412) -/

theorem extractPrg_eq (f : List Byte) : extractPrg f =
    if f.length < 16 ∨ f.take 4 ≠ cartridgeMagic then .error .badMagic
    else if f.length < 16 + prgUnits f * 16384 then .error .truncated
    else if prgUnits f > 2 then .error .tooLarge
    else .ok ((f.drop 16).take (prgUnits f * 16384)) := by
  have hheader : (decide (f.length < headerLength) || f.take 4 != cartridgeMagic) = true ↔
      f.length < 16 ∨ f.take 4 ≠ cartridgeMagic := by
    rw [Bool.or_eq_true, decide_eq_true_iff, bne_iff_ne]
    rfl
  simp only [extractPrg, hheader]
  rfl

theorem extractPrg_of_bad_header {f : List Byte} (h : f.length < 16 ∨ f.take 4 ≠ cartridgeMagic) :
    extractPrg f = .error .badMagic := by
  rw [extractPrg_eq, if_pos h]

/-- Once the magic is there, the size field decides, and the length of the file. -/
theorem extractPrg_of_magic {f rest : List Byte} {k : Byte} (hf : f = cartridgeMagic ++ k :: rest)
    (hlen : 16 ≤ f.length) : extractPrg f =
      if f.length < 16 + k.toNat * 16384 then .error .truncated
      else if k.toNat > 2 then .error .tooLarge
      else .ok ((f.drop 16).take (k.toNat * 16384)) := by
  have hunits : prgUnits f = k.toNat := by rw [hf]; rfl
  have hmagic : f.take 4 = cartridgeMagic := by rw [hf]; rfl
  have hheader : ¬(f.length < 16 ∨ f.take 4 ≠ cartridgeMagic) := not_or.2 ⟨by omega, not_not.2 hmagic⟩
  rw [extractPrg_eq, if_neg hheader, hunits]

/-! ## The placing of PRG-ROM (R412) -/

theorem prgBase_toNat : prgBase.toNat = 32768 := rfl

theorem mirrorBase_toNat : mirrorBase.toNat = 49152 := rfl

/-- PRG-ROM at 8000, and one unit of it at C000 as well; PC is as the program loader leaves it. -/
def placePrg (prg : List Byte) (s : State) : State :=
  let t := (storeBytes prgBase prg s).setPc prgBase
  if prg.length = prgUnit then storeBytes mirrorBase prg t else t

theorem loadCartridge_of_extractPrg_error {f : List Byte} {e : LoadError} (h : extractPrg f = .error e) (s : State) :
    loadCartridge f s = .error e := by
  simp only [loadCartridge, h]

theorem loadCartridge_of_extractPrg_ok {f prg : List Byte} (h : extractPrg f = .ok prg) (hlen : prg.length ≤ 32768)
    (s : State) : loadCartridge f s = .ok (placePrg prg s) := by
  have hload := loadProgram_of_fits (base := prgBase) (prog := prg) (by rw [prgBase_toNat]; omega) s
  simp only [loadCartridge, h, hload, placePrg]

section
variable {prg : List Byte} (s : State)

theorem placePrg_of_unit (h : prg.length = 16384) :
    placePrg prg s = storeBytes mirrorBase prg ((storeBytes prgBase prg s).setPc prgBase) := if_pos h

theorem placePrg_of_not_unit (h : prg.length ≠ 16384) :
    placePrg prg s = (storeBytes prgBase prg s).setPc prgBase := if_neg h

theorem placePrg_frame : RegsKept s (placePrg prg s) ∧ FlagsKept s (placePrg prg s) ∧
    (placePrg prg s).cycles = s.cycles ∧ GoesOn s (placePrg prg s) := by
  by_cases h : prg.length = 16384
  · simp [placePrg_of_unit s h, RegsKept, RegsAre, FlagsKept, GoesOn]
  · simp [placePrg_of_not_unit s h, RegsKept, RegsAre, FlagsKept, GoesOn]

theorem loadByte_placePrg_mirrorBase (h : prg.length = 16384) {i : Nat} (hi : i < prg.length) :
    loadByte (BitVec.ofNat 16 (0xC000 + i)) (placePrg prg s) = prg[i] := by
  rw [placePrg_of_unit s h]
  exact loadByte_storeBytes_inside (base := mirrorBase) (by rw [mirrorBase_toNat, h]) _ hi

variable (hlen : prg.length ≤ 32768)
include hlen

/-- The copy at C000, where there is one, begins above what stands at 8000. -/
theorem loadByte_placePrg_prgBase {i : Nat} (hi : i < prg.length) :
    loadByte (BitVec.ofNat 16 (0x8000 + i)) (placePrg prg s) = prg[i] := by
  have hplaced : loadByte (BitVec.ofNat 16 (0x8000 + i)) (storeBytes prgBase prg s) = prg[i] :=
    loadByte_storeBytes_inside (base := prgBase) (by rw [prgBase_toNat]; omega) s hi
  by_cases h : prg.length = 16384
  · rw [placePrg_of_unit s h, loadByte_storeBytes_outside (by rw [mirrorBase_toNat, h])]
    · exact hplaced
    · rw [mirrorBase_toNat, BitVec.toNat_ofNat]
      omega
  · rw [placePrg_of_not_unit s h]
    exact hplaced

/-- Below 8000 nothing is placed, and nothing at all of an empty PRG-ROM. -/
theorem loadByte_placePrg_outside {a : Word} (ha : a.toNat < 0x8000 ∨ prg.length = 0) :
    loadByte a (placePrg prg s) = loadByte a s := by
  have hbelow : loadByte a ((storeBytes prgBase prg s).setPc prgBase) = loadByte a s :=
    loadByte_storeBytes_outside (by rw [prgBase_toNat]; omega) s (by rw [prgBase_toNat]; omega)
  by_cases h : prg.length = 16384
  · rw [placePrg_of_unit s h, loadByte_storeBytes_outside (by rw [mirrorBase_toNat, h]), hbelow]
    rw [mirrorBase_toNat]
    omega
  · rw [placePrg_of_not_unit s h, hbelow]

end

/-- Settles O58. -/
theorem cartridgeReaderChecksThenPlaces : Obligations.CartridgeReaderChecksThenPlaces := by
  refine fun f s => ⟨fun h => loadCartridge_of_extractPrg_error (extractPrg_of_bad_header h) s,
    fun k rest hf hlen => ?_⟩
  have hextract := extractPrg_of_magic hf hlen
  refine ⟨fun htrunc => ?_, fun hlong hlarge => ?_, fun hlong hsmall => ?_⟩
  · rw [if_pos htrunc] at hextract
    exact loadCartridge_of_extractPrg_error hextract s
  · rw [if_neg (by omega), if_pos hlarge] at hextract
    exact loadCartridge_of_extractPrg_error hextract s
  · rw [if_neg (by omega), if_neg (by omega)] at hextract
    generalize hprg : (f.drop 16).take (k.toNat * 16384) = prg at hextract
    have hprglen : prg.length = k.toNat * 16384 := by
      rw [← hprg, List.length_take, List.length_drop]
      omega
    have hbyte {i : Nat} (hi : i < prg.length) : some prg[i] = f[16 + i]? := by
      rw [← List.getElem?_eq_getElem hi, ← hprg, List.getElem?_take_of_lt (by omega), List.getElem?_drop]
    have hmax : prg.length ≤ 32768 := by omega
    refine ⟨_, loadCartridge_of_extractPrg_ok hextract hmax s, fun i hi => ?_, fun hk i hi => ?_, fun a ha => ?_,
      placePrg_frame s⟩
    · rw [loadByte_placePrg_prgBase s hmax (by omega), hbyte]
    · rw [loadByte_placePrg_mirrorBase s (by omega) (by omega), hbyte]
    · exact loadByte_placePrg_outside s hmax (by omega)

end Sys2Proof.Machine
end

section
/-! PROOF. The run entry point and its loop (70_reset_and_hazards.md R400, R401, R410, R413). -/

namespace Sys2Proof.Machine

open Sys2Proof.Claims

/-! ## The loop, one step at a time -/

/-- A running state always steps: its instruction completes, or the opcode has no handler (R302, R301). -/
theorem step_completes {s : State} (hrun : s.run = .running) : ∃ t, step s = .next t := by
  cases hd : decode (fetchBytes s) with
  | ok d =>
    obtain ⟨t, ht⟩ := exec_completes d.1 s
    exact ⟨t, (step_of_decode hrun hd).trans ht⟩
  | error e => exact ⟨_, step_of_decode_error hrun hd⟩

theorem runSteps_of_step {s t : State} (h : step s = .next t) (n : Nat) : runSteps (n + 1) s = runSteps n t := by
  simp only [runSteps, h]

theorem runSteps_of_not_running {s : State} (h : s.run ≠ .running) (n : Nat) : runSteps n s = s := by
  cases n with
  | zero => rfl
  | succ n =>
    rw [runSteps]
    split
    next t ht => exact absurd (running_of_step ht) h
    all_goals rfl

/-- The loop in two parts (R413): the host's limit is the sum of two limits. -/
theorem runSteps_add (n m : Nat) (s : State) : runSteps (n + m) s = runSteps m (runSteps n s) := by
  induction n generalizing s with
  | zero => rw [Nat.zero_add]; rfl
  | succ n ih =>
    by_cases hrun : s.run = .running
    · obtain ⟨t, ht⟩ := step_completes hrun
      rw [Nat.succ_add, runSteps_of_step ht, runSteps_of_step ht, ih]
    · rw [runSteps_of_not_running hrun, runSteps_of_not_running hrun, runSteps_of_not_running hrun]

/-- The loop is a run of the machine (Host.Core.run) of as many steps as Run stays Running, and of all `n` unless
it is no longer so. -/
theorem exists_core_run_eq_runSteps (n : Nat) (s : State) :
    ∃ k, k ≤ n ∧ Host.Core.run Sys2Proof.core k s = .next (runSteps n s) ∧
      ((runSteps n s).run ≠ .running ∨ k = n) := by
  induction n generalizing s with
  | zero => exact ⟨0, le_rfl, rfl, .inr rfl⟩
  | succ n ih =>
    by_cases hrun : s.run = .running
    · obtain ⟨t, ht⟩ := step_completes hrun
      obtain ⟨k, hk, hcore, hend⟩ := ih t
      rw [runSteps_of_step ht]
      exact ⟨k + 1, Nat.succ_le_succ hk, (core_run_of_step ht k).trans hcore, hend.imp_right (congrArg (· + 1))⟩
    · rw [runSteps_of_not_running hrun]
      exact ⟨0, Nat.zero_le _, rfl, .inl hrun⟩

/-! ## The host's operations -/

theorem enterRun_eq (s : State) : enterRun s = { s with pc := 0x8000#16, p := 0x24#8 } := rfl

section
variable {image : Image} {s : State}

theorem runEntry_of_load {u : State} (h : loadImage image s = .ok u) : runEntry image s = .ok (enterRun u) := by
  simp only [runEntry, h]

theorem runEntry_of_load_error {e : LoadError} (h : loadImage image s = .error e) : runEntry image s = .error e := by
  simp only [runEntry, h]

end

section
variable {image : Image} {l : Launch} (n : Nat)

theorem launchRun_of_load {u : State} (h : loadImage image (createState l) = .ok u) :
    launchRun n l image = .ok (runFromEntry n u) := by
  simp only [launchRun, h]

theorem launchRun_of_load_error {e : LoadError} (h : loadImage image (createState l) = .error e) :
    launchRun n l image = .error e := by
  simp only [launchRun, h]

end

section
variable {prog : List Byte} {base : Word} {s : State}

theorem loadProgram_pc {u : State} (h : loadProgram prog base s = .ok u) : u.pc = base := by
  rw [loadProgram_eq] at h
  split at h
  · cases h
    rfl
  · cases h

theorem runFromBase_of_load {u : State} (n : Nat) (h : loadProgram prog base s = .ok u) :
    runFromBase n prog base s = .ok (runSteps n u) := by
  simp only [runFromBase, h]

theorem runFromBase_of_load_error {e : LoadError} (n : Nat) (h : loadProgram prog base s = .error e) :
    runFromBase n prog base s = .error e := by
  simp only [runFromBase, h]

end

/-- Settles O59. -/
theorem runEntryStartsAtTheEntryPoint : Obligations.RunEntryStartsAtTheEntryPoint := by
  refine ⟨fun _ => ⟨⟨rfl, rfl, rfl, rfl⟩, rfl, rfl, rfl, rfl⟩, fun _ _ => rfl, fun _ _ _ => rfl,
    fun _ _ _ => runEntry_of_load, fun _ _ _ => runEntry_of_load_error, fun _ _ => rfl,
    fun n _ _ => ⟨fun _ => launchRun_of_load n, fun _ => launchRun_of_load_error n⟩,
    fun n _ _ _ => ⟨fun _ h => ⟨loadProgram_pc h, runFromBase_of_load n h⟩, fun _ => runFromBase_of_load_error n⟩,
    fun _ => rfl, fun n _ _ h => runSteps_of_step h n, fun n _ h => runSteps_of_not_running h n,
    fun n s => ?_, fun n s => ?_, fun n m s h => ?_, runSteps_add⟩
  · obtain ⟨k, -, hcore, hended | rfl⟩ := exists_core_run_eq_runSteps n s
    · exact .inl hended
    · exact .inr hcore
  · obtain ⟨k, hk, hcore, -⟩ := exists_core_run_eq_runSteps n s
    exact ⟨k, hk, hcore⟩
  · rw [runSteps_add, runSteps_of_not_running h]

end Sys2Proof.Machine
end
